-- ==== Sys2Proof/Word.lean ====
section
/-! DEFINITION. The words of the part: a data byte, a 29-bit identifier, a 32-bit counter and the 16-bit clock. -/

namespace Sys2Proof

/-- One byte of frame data (R1: bit 0 is its least significant bit). -/
abbrev Byte := BitVec 8

/-- A frame identifier as R10 compares it: a STANDARD one has bits 11..28 zero. -/
abbrev Ident := BitVec 29

/-- A counter that wraps from 4294967295 to 0 (R48, R49, R162). -/
abbrev Count := BitVec 32

/-- A count of milliseconds that wraps from 65535 to 0 (R68). -/
abbrev Clock := BitVec 16

end Sys2Proof
end

