-- ==== Sys2Proof/Syntax.lean ====
section
/-! DEFINITION. The commands of the part, one constructor per row of the opcode table, and the operands they carry. -/

namespace Sys2Proof

/-- The two ports (R4). -/
inductive Port
  | chassis
  | body
  deriving DecidableEq, Repr

/-- The two Forwarding Queues, named by their direction (R26). -/
inductive QueueId
  /-- from the Body Port to the Chassis Port -/
  | bc
  /-- from the Chassis Port to the Body Port -/
  | cb
  deriving DecidableEq, Repr

/-- Frame format: 11-bit or 29-bit identifier (R4). -/
inductive Format
  | standard
  | extended
  deriving DecidableEq, Repr, Inhabited

/-- Frame kind (R4). -/
inductive FrameKind
  | data
  | remote
  deriving DecidableEq, Repr

/-- A CAN frame. As an operand of FRAME_ARRIVAL `length` is the length code on the link, 0..15 (R4); inside the part it
is 0..8. A REMOTE frame has no data. -/
structure Frame where
  format : Format
  kind : FrameKind
  ident : Ident
  length : Nat
  data : List Byte
  deriving DecidableEq, Repr

/-- The three discrete inputs (R79). -/
inductive InputId
  | parkSw
  | mainFb
  | auxFb
  deriving DecidableEq, Repr

/-- The strap levels, `true` for high (R5, R47). `node` is ADDR1 ADDR0, with ADDR1 its high bit. -/
structure Straps where
  node : BitVec 2
  rateC : Bool
  rateB : Bool
  deriving DecidableEq, Repr

/-- The commands. A management row (QUERY_STATUS to RESTART, BAD_REQUEST) is the arrival of that request frame at the
Body Port; its operands are the frame's fields as R181 lays them out, so that a value out of range can be sent. -/
inductive Instr
  /-- The supply rises through its threshold; the straps are read. -/
  | powerReset (straps : Straps)
  /-- RESET_N is released; the straps are read. -/
  | pinReset (straps : Straps)
  /-- A port receives a frame. -/
  | frameArrival (port : Port) (frame : Frame)
  | queueMove (queue : QueueId)
  | attemptStart (port : Port)
  | attemptSuccess (port : Port)
  | attemptFailure (port : Port)
  | arbitrationLoss (port : Port)
  | recoveryTimerExpiry (port : Port)
  /-- A discrete input pin takes a level: `low = true` is the active level. -/
  | discretePinChange (input : InputId) (low : Bool)
  | debouncedInputChange (input : InputId)
  | freshnessExpiry (slot : Fin 32)
  | holdExpiry (slot : Fin 32)
  | phaseTimerExpiry
  | creepDetected
  | ceilingTimerExpiry
  | reassertionTimerExpiry
  | evaluationTimerExpiry (comp : Fin 4)
  | holdCountdownExpiry (comp : Fin 4)
  | reportTimerExpiry
  | statusTimerExpiry
  | lampFlashToggle
  | queryStatus (tag page : Byte)
  | readSignal (tag slot : Byte)
  | readCompartment (tag comp : Byte)
  | readTable (tag : Byte) (table : BitVec 3) (field : BitVec 5) (index bank : Byte)
  | writeTable (tag : Byte) (table : BitVec 3) (field : BitVec 5) (index : Byte) (value : BitVec 32)
  | copyActiveToShadow (tag : Byte)
  | activate (tag store : Byte)
  /-- The validation in progress ends. -/
  | validationCompletion
  /-- The store's read-back ends; `equal` says whether every part compared equal. -/
  | storeEnd (equal : Bool)
  | powerUpLoadCompletion
  | probe (tag : Byte) (bank port format : BitVec 1) (modeClass : BitVec 3) (ident : BitVec 32)
  | quiesce (tag port : Byte)
  | cut (tag port : Byte)
  | resume (tag port : Byte)
  | readCounter (tag group counter : Byte)
  | clearCounters (tag group : Byte)
  | readFault (tag : Byte)
  | clearFault (tag : Byte)
  | clearFlags (tag : Byte) (mask : BitVec 24)
  | restart (tag : Byte)
  | restartCountdownExpiry
  | frameClockTick
  /-- A request frame that names no kind, is too short for its kind, or is a remote frame. -/
  | badRequest (kind : FrameKind) (length : Nat) (data : List Byte)
  deriving DecidableEq, Repr

end Sys2Proof
end

