-- ==== Sys2Proof/Machine/Tables.lean ====
section
/-! DEFINITION. The tables of a bank (R147) as records, and the cleared bank. Field names and ranges are those of R183. -/

namespace Sys2Proof.Machine

/-- Byte order of a field within frame data (R2). -/
inductive ByteOrder
  | lowFirst
  | highFirst
  deriving DecidableEq, Repr, Inhabited

/-- A field within frame data: start bit 0..63, width 1..16, byte order (R2). -/
structure Field where
  start : Nat
  width : Nat
  order : ByteOrder
  deriving DecidableEq, Repr, Inhabited

/-- The action of a port for frames that match no entry (R13). -/
inductive DefaultAction
  | pass
  | block
  deriving DecidableEq, Repr, Inhabited

/-- The header of a bank (R147): default actions, and two periods of 0..100 × 100 ms. -/
structure Header where
  chassisDefault : DefaultAction
  bodyDefault : DefaultAction
  statusPeriod : Nat
  levelPeriod : Nat
  deriving DecidableEq, Repr, Inhabited

/-- The ports an FCT entry can match (R8). -/
inductive PortSet
  | chassis
  | body
  | both
  deriving DecidableEq, Repr, Inhabited

/-- The action of an FCT entry (R16). -/
inductive Action
  | pass
  | block
  | tap
  | sink
  | clamp
  | rangeGuard
  deriving DecidableEq, Repr, Inhabited

/-- An extractor of an FCT entry (R8, R19). -/
structure Extractor where
  slot : Fin 32
  field : Field
  deriving DecidableEq, Repr, Inhabited

/-- An FCT entry (R8). `modes` has bit 0 ROAD, 1 TRANSITION, 2 PUMP, 3 ROLL, 4 HOLD. The list of extractors is the first
`extCount` of the two held (R151). The hit count is kept beside the Active bank (R147). -/
structure FctEntry where
  enabled : Bool
  ports : PortSet
  format : Format
  base : Ident
  mask : Ident
  modes : BitVec 5
  action : Action
  latestOnly : Bool
  edit : Field
  fullScale : Nat
  extCount : Nat
  ext0 : Extractor
  ext1 : Extractor
  deriving DecidableEq, Repr, Inhabited

/-- A Signal Definition (R52). -/
structure SlotDef where
  gain : Nat
  offset : Int
  plausMin : Int
  plausMax : Int
  freshness : Nat
  errorStep : Nat
  holdTime : Nat
  deriving DecidableEq, Repr, Inhabited

/-- The five roles, numbered 0..4 in this order (R65, R183). -/
inductive Role
  | roadSpeed
  | engineSpeed
  | currentRange
  | modeRequest
  | intakePressure
  deriving DecidableEq, Repr, Inhabited

/-- The role map: each role bound to a slot, or UNBOUND (R65). -/
structure RoleMap where
  roadSpeed : Option (Fin 32)
  engineSpeed : Option (Fin 32)
  currentRange : Option (Fin 32)
  modeRequest : Option (Fin 32)
  intakePressure : Option (Fin 32)
  deriving DecidableEq, Repr, Inhabited

/-- The interlock parameters (R74, R108, R183). The roll allowed set is the first `rollSize` of `rollCodes` (R151). -/
structure Params where
  stationary : Nat
  creepLimit : Nat
  creepTime : Nat
  engageMax : Nat
  neutral : Nat
  pumpRange : Nat
  rollSize : Nat
  rollCodes : Vector Nat 4
  tA : Nat
  tB : Nat
  tC : Nat
  tD1 : Nat
  pumpMax : Nat
  rollMax : Nat
  rollSpeedLimit : Nat
  protCeiling : Nat
  intakeMin : Int
  riseStep : Nat
  period : Nat
  deriving DecidableEq, Repr, Inhabited

/-- The lockout template (R122). Its range field always has width 8. -/
structure Template where
  ident : Ident
  format : Format
  length : Nat
  data : Vector Byte 8
  lockStart : Nat
  lockWidth : Nat
  lockOrder : ByteOrder
  rangeStart : Nat
  rangeOrder : ByteOrder
  deriving DecidableEq, Repr, Inhabited

/-- A sender of a compartment: its slot and mount offset (R125). -/
structure Sender where
  slot : Fin 32
  offset : Int
  deriving DecidableEq, Repr, Inhabited

/-- A compartment entry (R125). The sender list is the first `senderCount` of `senders` (R151). -/
structure CompEntry where
  enabled : Bool
  feedsPump : Bool
  height : Nat
  senderCount : Nat
  senders : Vector Sender 3
  strapCount : Nat
  kStill : Nat
  kMoving : Nat
  lowThreshold : Nat
  hysteresis : Nat
  emptyVolume : Nat
  holdTime : Nat
  deriving DecidableEq, Repr, Inhabited

/-- A strap point (R126): level in mm and volume in litres. -/
structure StrapPoint where
  h : Nat
  v : Nat
  deriving DecidableEq, Repr, Inhabited

/-- A bank of tables (R147). Strap point `compartment × 16 + i` is point i of that compartment (R126). -/
structure Bank where
  header : Header
  fct : Vector FctEntry 48
  sdt : Vector SlotDef 32
  roles : RoleMap
  params : Params
  template : Template
  comps : Vector CompEntry 4
  straps : Vector StrapPoint 64
  deriving DecidableEq, Repr, Inhabited

/-- A field of a cleared bank: the lowest value of each part (R147, R183). -/
def clearedField : Field := ⟨0, 1, .lowFirst⟩

/-- A cleared extractor (R147). -/
def clearedExtractor : Extractor := ⟨0, clearedField⟩

/-- An FCT entry of a cleared bank: disabled, first code or lowest value in each field (R147, R183). -/
def clearedEntry : FctEntry :=
  { enabled := false, ports := .chassis, format := .standard, base := 0, mask := 0, modes := 0, action := .pass,
    latestOnly := false, edit := clearedField, fullScale := 1, extCount := 0,
    ext0 := clearedExtractor, ext1 := clearedExtractor }

/-- A Signal Definition of a cleared bank: lowest values, but the error step stands at 8 (R52). -/
def clearedSlotDef : SlotDef :=
  { gain := 0, offset := -32768, plausMin := -32768, plausMax := -32768, freshness := 0, errorStep := 8, holdTime := 0 }

/-- The role map of a cleared bank: every role UNBOUND (R65). -/
def clearedRoles : RoleMap := ⟨none, none, none, none, none⟩

/-- The interlock parameters of a cleared bank: lowest values (R147, R183). -/
def clearedParams : Params :=
  { stationary := 0, creepLimit := 0, creepTime := 0, engageMax := 300, neutral := 0, pumpRange := 0, rollSize := 1,
    rollCodes := Vector.replicate 4 0, tA := 0, tB := 0, tC := 0, tD1 := 0, pumpMax := 0, rollMax := 0,
    rollSpeedLimit := 0, protCeiling := 0, intakeMin := -100, riseStep := 0, period := 0 }

/-- The lockout template of a cleared bank: lowest values (R123, R183). -/
def clearedTemplate : Template :=
  { ident := 0, format := .standard, length := 1, data := Vector.replicate 8 0, lockStart := 0, lockWidth := 2,
    lockOrder := .lowFirst, rangeStart := 0, rangeOrder := .lowFirst }

/-- A compartment entry of a cleared bank (R125). -/
def clearedComp : CompEntry :=
  { enabled := false, feedsPump := false, height := 100, senderCount := 1, senders := Vector.replicate 3 ⟨0, -500⟩,
    strapCount := 2, kStill := 0, kMoving := 0, lowThreshold := 0, hysteresis := 0, emptyVolume := 0, holdTime := 0 }

/-- The cleared bank (R147). -/
def clearedBank : Bank :=
  { header := ⟨.pass, .pass, 0, 0⟩
    fct := Vector.replicate 48 clearedEntry
    sdt := Vector.replicate 32 clearedSlotDef
    roles := clearedRoles
    params := clearedParams
    template := clearedTemplate
    comps := Vector.replicate 4 clearedComp
    straps := Vector.replicate 64 ⟨0, 0⟩ }

/-- The slot a role is bound to, if any (R65). -/
def RoleMap.get (m : RoleMap) (r : Role) : Option (Fin 32) :=
  match r with
  | .roadSpeed => m.roadSpeed
  | .engineSpeed => m.engineSpeed
  | .currentRange => m.currentRange
  | .modeRequest => m.modeRequest
  | .intakePressure => m.intakePressure

/-- The extractor list of an entry (R151). -/
def FctEntry.extractors (e : FctEntry) : List Extractor := [e.ext0, e.ext1].take e.extCount

/-- The roll allowed set (R74, R151). -/
def Params.rollSet (p : Params) : List Nat := p.rollCodes.toList.take p.rollSize

/-- The sender list of a compartment (R125, R151). -/
def CompEntry.senderList (c : CompEntry) : List Sender := c.senders.toList.take c.senderCount

/-- The strap points a compartment uses: points 0..n − 1 of its sixteen (R126, R151). -/
def Bank.strapList (b : Bank) (c : Fin 4) : List StrapPoint :=
  (b.straps.toList.drop (16 * c.val)).take b.comps[c].strapCount

/-- The lock-state field of the template (R122). -/
def Template.lockField (t : Template) : Field := ⟨t.lockStart, t.lockWidth, t.lockOrder⟩

/-- The range field of the template, of width 8 in every bank (R183). -/
def Template.rangeField (t : Template) : Field := ⟨t.rangeStart, 8, t.rangeOrder⟩

end Sys2Proof.Machine
end

