-- ==== Sys2Proof/Config.lean ====
section
/-! DEFINITION. The free values of the model: constants with no body, of which nothing can be proved but their type. -/

namespace Sys2Proof

/-- What the Image Store's tables hold once a store has begun to overwrite them and until one has ended well: "a partial
or mismatched image behind a clear marker" (R159). The manual does not say what such an image holds. The argument is the
count of the stores begun. FREE VALUE, DESIGN CHOICE, safe: notes/assumptions/5.md. -/
opaque Config.partialImage : Nat → Machine.Bank

end Sys2Proof
end

