-- ==== Sys2Proof/Machine/State.lean ====
section
/-! DEFINITION. The state of the part as plain data, block by block, and the state right after reset. -/

namespace Sys2Proof.Machine

/-! ## Ports, queues and local lists (chapter 2) -/

/-- The action a frame record carries (R22); `none` is that of a record built in UNLOADED (R7). -/
inductive RecAction
  | pass
  | tap
  | clamp
  | rangeGuard
  | none
  deriving DecidableEq, Repr

/-- A frame record of a Forwarding Queue (R22). -/
structure FrameRecord where
  ident : Ident
  format : Format
  kind : FrameKind
  length : Nat
  data : List Byte
  action : RecAction
  latestOnly : Bool
  edit : Option Field
  fullScale : Option Nat
  attempts : Nat
  deriving DecidableEq, Repr

/-- A Forwarding Queue: body, oldest first, output stage (R26) and counters (R49). -/
structure Queue where
  body : List FrameRecord
  out : Option FrameRecord
  entered : Count
  transmitted : Count
  superseded : Count
  droppedFull : Count
  droppedStopped : Count
  abandoned : Count
  flushed : Count
  deriving DecidableEq, Repr

/-- The port states (R39). -/
inductive PortSt
  | active
  | quiescing
  | stopped
  | busFault
  deriving DecidableEq, Repr

/-- The two RESPONSE places of the Body Port: local places 3 and 4 (R36). -/
inductive RespPlace
  | first
  | second
  deriving DecidableEq, Repr

/-- Where the frame of an attempt waits (R31, R38). -/
inductive Source
  | lockout
  | response (p : RespPlace)
  | busy
  | status
  | level
  | output
  deriving DecidableEq, Repr

/-- A frame in mid-attempt: where it stands, and the outgoing frame fixed at the attempt's start (R31, R32). -/
structure Attempt where
  source : Source
  frame : Frame
  deriving DecidableEq, Repr

/-- A port: state, run counter, recovery timer, quiesce-pending flag, return state (R39, R40), the attempt in progress
(R31) and the counters of R48. `ret` is read in BUS_FAULT alone. -/
structure PortRec where
  st : PortSt
  run : Nat
  recovery : Option Nat
  quiescePending : Bool
  ret : PortSt
  attempt : Option Attempt
  arrivals : Count
  mgmtArrivals : Count
  localTransmitted : Count
  forwardedTransmitted : Count
  failedAttempts : Count
  localAbandoned : Count
  busFaults : Count
  deriving DecidableEq, Repr

/-- A frame in a local place with its attempt count (R36). `stale` is used in the LOCKOUT place: the frame was generated
before the latest entry into phase A (R86). -/
structure LocalFrame where
  frame : Frame
  attempts : Nat
  stale : Bool
  deriving DecidableEq, Repr

/-- A LOCKOUT, STATUS or LEVEL place: its frame, and the replacement that waits for the end of an attempt (R37). -/
structure Place where
  cur : Option LocalFrame
  waiting : Option LocalFrame
  deriving DecidableEq, Repr

/-- The local lists of both ports (R36). `respOlder` is the RESPONSE place that was filled earlier, read when both hold
a frame (R38). -/
structure Places where
  lockout : Place
  resp1 : Option LocalFrame
  resp2 : Option LocalFrame
  respOlder : RespPlace
  busy : Option LocalFrame
  status : Place
  level : Place
  deriving DecidableEq, Repr

/-! ## Signal Tracker (chapter 3) -/

/-- Slot status (R51). -/
inductive SlotStatus
  | noData
  | healthy
  | suspect
  | lost
  deriving DecidableEq, Repr

/-- The hold countdown of a slot (R51, R63): `never` is a started countdown of hold time 255. -/
inductive HoldTimer
  | stopped
  | running (left : Nat)
  | never
  | expired
  deriving DecidableEq, Repr

/-- A signal slot (R51). -/
structure Slot where
  value : Option Int
  status : SlotStatus
  hc : Nat
  recovery : Nat
  freshness : Option Nat
  hold : HoldTimer
  stamp : Option Clock
  deriving DecidableEq, Repr

/-! ## Fault causes (chapter 9) -/

/-- The 24 causes, in the order of their codes (R175). -/
inductive Cause
  | engageRefused
  | requestRefused
  | phaseATimeout
  | phaseBTimeout
  | phaseCTimeout
  | engageAborted
  | throttleDownTimeout
  | neutralTimeout
  | releaseTimeout
  | parkReleasedPumping
  | creepDetected
  | feedbackMismatch
  | rollOverspeed
  | speedAbsentRolling
  | signalLost
  | tankUnknown
  | tankProtection
  | queueOverflow
  | transmitAbandoned
  | portBusFault
  | activationRefused
  | storeFailed
  | imageInvalid
  | restarted
  deriving DecidableEq, Repr

/-- The severities, lowest first (section 9.1). -/
inductive Severity
  | note
  | minor
  | major
  | critical
  deriving DecidableEq, Repr

/-! ## Drive Interlock Controller (chapter 4) -/

/-- The apparatus states (R73). -/
inductive AppState
  | unloaded
  | road
  | mainEngaging
  | pump
  | auxEngaging
  | roll
  | disengaging
  | faultHold
  deriving DecidableEq, Repr

/-- The phases: A, B, C of MAIN_ENGAGING, A, B of AUX_ENGAGING, D1, D2, D3 of DISENGAGING (R73). -/
inductive Phase
  | none
  | a
  | b
  | c
  | d1
  | d2
  | d3
  deriving DecidableEq, Repr

/-- The origin of a disengaging (R98). -/
inductive Origin
  | main
  | aux
  | none
  deriving DecidableEq, Repr

/-- The disengage cause (R73, R98): OPERATOR, or the cause reported. -/
inductive DisCause
  | operator
  | cause (c : Cause)
  deriving DecidableEq, Repr

/-- The requests of the mode switch (R81). -/
inductive Request
  | road
  | pump
  | roll
  deriving DecidableEq, Repr

/-- The lamp setting (R106). -/
inductive Lamp
  | off
  | on
  | flash
  deriving DecidableEq, Repr

/-- A discrete input: its pin (`pinLow`, low being active), the debounced level and the stability countdown (R79). -/
structure Debouncer where
  pinLow : Bool
  active : Bool
  countdown : Option Nat
  deriving DecidableEq, Repr

/-- The record of the Drive Interlock Controller (R73). `lampHigh` is the PUMP_OK pin, `flash` the time left of the
current half period (R106). -/
structure Controller where
  app : AppState
  phase : Phase
  origin : Option Origin
  cause : Option DisCause
  phaseTimer : Option Nat
  lastReq : Option Request
  seeded : Bool
  confirmed : Bool
  guard : Bool
  creep : Option Nat
  overspeed : Bool
  speedAbsent : Bool
  mismatch : Bool
  park : Debouncer
  mainFb : Debouncer
  auxFb : Debouncer
  mainShift : Bool
  auxClutch : Bool
  lamp : Lamp
  lampHigh : Bool
  flash : Option Nat
  deriving DecidableEq, Repr

/-! ## Ceiling and Lockout Unit (chapter 5) -/

/-- The lockout content (R107, R119). -/
inductive Content
  | notEmitting
  | none
  | holdNeutral
  | holdPump
  | restrict
  deriving DecidableEq, Repr

/-- The record of the Ceiling and Lockout Unit (R107). The ceiling timer always runs. -/
structure CeilingUnit where
  e : Nat
  timer : Nat
  protection : Bool
  lastRange : Nat
  content : Content
  reassert : Option Nat
  deriving DecidableEq, Repr

/-! ## Tank Gauge Unit (chapter 6) -/

/-- Validity of a compartment record (R128). -/
inductive Validity
  | valid
  | held
  | unknown
  | disabled
  deriving DecidableEq, Repr

/-- Fill class of a compartment (R128). -/
inductive Band
  | normal
  | low
  | empty
  | none
  deriving DecidableEq, Repr

/-- A compartment record (R128). -/
structure CompRec where
  validity : Validity
  band : Band
  f16 : Option Nat
  lf : Nat
  v : Nat
  p : Nat
  hold : Option Nat
  evalTimer : Option Nat
  deriving DecidableEq, Repr

/-- The Tank Gauge Unit: four compartment records and the report timer (R128, R143). -/
structure TankUnit where
  comps : Vector CompRec 4
  report : Option Nat
  deriving DecidableEq, Repr

/-! ## Table Memory (chapter 7) -/

/-- Table origin (R148). -/
inductive TableOrigin
  | cleared
  | loading
  | loaded
  | activated
  deriving DecidableEq, Repr

/-- The Image Store: one bank's tables and the validity marker, SET being `true` (R147, R159). -/
structure ImageStore where
  image : Bank
  marker : Bool
  deriving DecidableEq, Repr

/-- Table Memory: both banks, the hit counts of the Active bank (R18), the Image Store, and the table-state record
(R148). -/
structure TableMemory where
  active : Bank
  shadow : Bank
  hits : Vector Nat 48
  store : ImageStore
  origin : TableOrigin
  marker : Bool
  storing : Bool
  deriving DecidableEq, Repr

/-! ## Management Engine (chapter 8) -/

/-- The two intake buffers (R162). -/
inductive Buffer
  | x
  | y
  deriving DecidableEq, Repr

/-- How far the ACTIVATE in service has come (R168). -/
inductive ServiceStage
  | validating
  | storing
  deriving DecidableEq, Repr

/-- The request in service between events, which is always an ACTIVATE (R168), with its claimed RESPONSE place. -/
structure Service where
  request : Frame
  place : RespPlace
  stage : ServiceStage
  deriving DecidableEq, Repr

/-- A pending RESTART: the countdown, and the place its OK response was put in (R173, R174). -/
structure RestartPending where
  left : Nat
  place : RespPlace
  deriving DecidableEq, Repr

/-- The status pages (R171). -/
inductive Page
  | a
  | b
  deriving DecidableEq, Repr

/-- The record of the Management Engine (R162). When both buffers hold requests, the last filled one is the younger. -/
structure Engine where
  bufX : Option Frame
  bufY : Option Frame
  lastFilled : Buffer
  inService : Option Service
  restart : Option RestartPending
  busyDropped : Count
  statusTimer : Option Nat
  nextPage : Page
  deriving DecidableEq, Repr

/-! ## Fault Capture Unit (chapter 9) -/

/-- A captured event (R176). -/
structure Capture where
  severity : Severity
  cause : Cause
  index : Option Nat
  app : AppState
  clock : Clock
  suppressed : Nat
  deriving DecidableEq, Repr

/-- The Fault Capture Unit: the capture record (R176), and the attention flags with the flag of cause code k at bit
k − 1 (R178, R182). -/
structure FaultUnit where
  record : Option Capture
  flags : BitVec 24
  deriving DecidableEq, Repr

/-! ## The whole part -/

/-- The state of the part. `pending` is the queue of commands that wait; `freeNext` is the model's own count for free
values (notes/assumptions/5.md); all the rest is the spec's. -/
structure State where
  pending : List Instr
  straps : Straps
  chassis : PortRec
  body : PortRec
  bc : Queue
  cb : Queue
  places : Places
  slots : Vector Slot 32
  clock : Clock
  ctl : Controller
  ceil : CeilingUnit
  tank : TankUnit
  tables : TableMemory
  engine : Engine
  faults : FaultUnit
  freeNext : Nat
  deriving DecidableEq, Repr

/-- The reasons a step stops with a fault: none. Every event of the part has its effect, and what goes wrong is reported
to the Fault Capture Unit (R175). Nothing raises a fault. -/
inductive Fault
  deriving DecidableEq, Repr

/-- The reasons a command is refused. -/
inductive Refusal
  /-- A command with no meaning in the model; raised by `exec` for the row named. Safe: it proves nothing of the row.
  No arm of this model raises it. -/
  | notModelled (mnemonic : String)
  deriving DecidableEq, Repr

/-! ## Reset -/

/-- A port after reset (R39, R48). -/
def resetPort : PortRec :=
  { st := .active, run := 0, recovery := none, quiescePending := false, ret := .active, attempt := none,
    arrivals := 0, mgmtArrivals := 0, localTransmitted := 0, forwardedTransmitted := 0, failedAttempts := 0,
    localAbandoned := 0, busFaults := 0 }

/-- A queue after reset (R26, R49). -/
def resetQueue : Queue :=
  { body := [], out := none, entered := 0, transmitted := 0, superseded := 0, droppedFull := 0, droppedStopped := 0,
    abandoned := 0, flushed := 0 }

/-- An empty LOCKOUT, STATUS or LEVEL place. -/
def emptyPlace : Place := ⟨none, none⟩

/-- The local lists after reset: every place empty (R36). -/
def resetPlaces : Places :=
  { lockout := emptyPlace, resp1 := none, resp2 := none, respOlder := .first, busy := none, status := emptyPlace,
    level := emptyPlace }

/-- The state right after a power reset that finds the Image Store marker clear (R160): every block in its reset state,
both banks cleared, UNLOADED, and IMAGE_INVALID captured (R180). The pins, the straps and the Image Store come from
outside the reset: DESIGN CHOICE, notes/assumptions/4.md. -/
def State.reset : State :=
  { pending := []
    straps := ⟨0, false, false⟩
    chassis := resetPort
    body := resetPort
    bc := resetQueue
    cb := resetQueue
    places := resetPlaces
    slots := Vector.replicate 32 ⟨none, .noData, 0, 0, none, .stopped, none⟩
    clock := 0
    ctl :=
      { app := .unloaded, phase := .none, origin := none, cause := none, phaseTimer := none, lastReq := none,
        seeded := false, confirmed := false, guard := false, creep := none, overspeed := false, speedAbsent := false,
        mismatch := false, park := ⟨false, false, none⟩, mainFb := ⟨false, false, none⟩, auxFb := ⟨false, false, none⟩,
        mainShift := false, auxClutch := false, lamp := .off, lampHigh := false, flash := none }
    ceil := { e := 1000, timer := 100, protection := false, lastRange := 0, content := .notEmitting, reassert := none }
    tank := { comps := Vector.replicate 4 ⟨.disabled, .none, none, 0, 0, 0, none, none⟩, report := none }
    tables :=
      { active := clearedBank, shadow := clearedBank, hits := Vector.replicate 48 0,
        store := ⟨clearedBank, false⟩, origin := .cleared, marker := false, storing := false }
    engine :=
      { bufX := none, bufY := none, lastFilled := .y, inService := none, restart := none, busyDropped := 0,
        statusTimer := some 1000, nextPage := .a }
    faults := { record := some ⟨.major, .imageInvalid, none, .unloaded, 0, 0⟩, flags := 0x400000 }
    freeNext := 0 }

end Sys2Proof.Machine
end

