-- ==== Sys2Proof/Machine/Operands.lean ====
section
/-! DEFINITION. The operand forms: fields within frame data (R1 to R3, R17), bytes and words of the frame layouts (R181,
R182), and the codes that the layouts give to names. -/

namespace Sys2Proof.Machine

/-! ## Fields within frame data -/

/-- Byte i of the data, 0 past its end. -/
def dataByte (d : List Byte) (i : Nat) : Byte := d.getD i 0

/-- Data bit n is bit (n mod 8) of data byte (n div 8) (R1). -/
def dataBit (d : List Byte) (n : Nat) : Bool := (dataByte d (n / 8)).getLsbD (n % 8)

/-- Bit i of a byte set to a value. -/
def setByteBit (x : Byte) (i : Nat) (v : Bool) : Byte :=
  if v then x ||| (1#8 <<< i) else x &&& ~~~(1#8 <<< i)

/-- Data bit n set to a value; data past the end is left alone. -/
def setDataBit (d : List Byte) (n : Nat) (v : Bool) : List Byte :=
  d.set (n / 8) (setByteBit (dataByte d (n / 8)) (n % 8) v)

/-- The value of w bits that run upward from the start bit (R2 LOW_FIRST, R19). -/
def readLow (d : List Byte) (start : Nat) : Nat → Nat
  | 0 => 0
  | w + 1 => readLow d start w + (if dataBit d (start + w) then 2 ^ w else 0)

/-- The low w bits of v placed upward from the start bit (R2 LOW_FIRST). -/
def writeLow (d : List Byte) (start v : Nat) : Nat → List Byte
  | 0 => d
  | w + 1 => setDataBit (writeLow d start v w) (start + w) (v.testBit w)

/-- Reading a field (R2, R19). A HIGH_FIRST field has width 8 or 16; any width but 16 is read as one byte
(notes/assumptions/12.md). -/
def readField (f : Field) (d : List Byte) : Nat :=
  match f.order with
  | .lowFirst => readLow d f.start f.width
  | .highFirst =>
    if f.width = 16 then 256 * (dataByte d (f.start / 8)).toNat + (dataByte d (f.start / 8 + 1)).toNat
    else (dataByte d (f.start / 8)).toNat

/-- Writing a field: the value in the field's bits, every other bit as it was (R2). -/
def writeField (f : Field) (v : Nat) (d : List Byte) : List Byte :=
  match f.order with
  | .lowFirst => writeLow d f.start v f.width
  | .highFirst =>
    if f.width = 16 then
      (d.set (f.start / 8) (BitVec.ofNat 8 (v / 256))).set (f.start / 8 + 1) (BitVec.ofNat 8 v)
    else d.set (f.start / 8) (BitVec.ofNat 8 v)

/-- The byte-order constraints (R2). -/
def Field.geometryOk (f : Field) : Bool :=
  match f.order with
  | .lowFirst => f.start + f.width ≤ 64
  | .highFirst => f.start % 8 = 0 ∧ (f.width = 8 ∨ f.width = 16)

/-- The field lies wholly within `length` data bytes (R17, R20, R123). -/
def Field.fits (f : Field) (length : Nat) : Bool :=
  match f.order with
  | .lowFirst => f.start + f.width ≤ 8 * length
  | .highFirst => f.start / 8 + f.width / 8 ≤ length

/-- The data bits a field occupies (R2). -/
def Field.bits (f : Field) : List Nat :=
  match f.order with
  | .lowFirst => (List.range f.width).map (f.start + ·)
  | .highFirst => (List.range (8 * (f.width / 8))).map (8 * (f.start / 8) + ·)

/-- The value is the not-available pattern of its width (R3, R54). -/
def notAvailable (width value : Nat) : Bool := 2 ≤ width ∧ value = 2 ^ width - 1

/-! ## Bytes and words of the layouts -/

/-- A 16-bit word, most significant byte first (chapter 10). -/
def be16 (n : Nat) : List Byte := [BitVec.ofNat 8 (n / 256), BitVec.ofNat 8 n]

/-- A 32-bit word, most significant byte first. -/
def be32 (x : BitVec 32) : List Byte :=
  [BitVec.ofNat 8 (x.toNat / 16777216), BitVec.ofNat 8 (x.toNat / 65536), BitVec.ofNat 8 (x.toNat / 256),
   BitVec.ofNat 8 x.toNat]

/-- The 32-bit word carried in bytes i..i + 3, most significant byte first. -/
def word32At (d : List Byte) (i : Nat) : BitVec 32 :=
  BitVec.ofNat 32
    (16777216 * (dataByte d i).toNat + 65536 * (dataByte d (i + 1)).toNat + 256 * (dataByte d (i + 2)).toNat
      + (dataByte d (i + 3)).toNat)

/-- A signed value in 16 bits, two's complement (chapter 10). -/
def signed16 (v : Int) : Nat := (BitVec.ofInt 16 v).toNat

/-- The list cut or filled with 0 to n bytes. -/
def padBytes (n : Nat) (d : List Byte) : List Byte := (d ++ List.replicate n 0).take n

/-! ## Codes -/

def bit (b : Bool) : Nat := if b then 1 else 0

/-- Codes of the apparatus states (section 10.1). -/
def AppState.code : AppState → Nat
  | .unloaded => 0 | .road => 1 | .mainEngaging => 2 | .pump => 3
  | .auxEngaging => 4 | .roll => 5 | .disengaging => 6 | .faultHold => 7

/-- Codes of the phases (R182). -/
def Phase.code : Phase → Nat
  | .none => 0 | .a => 1 | .b => 2 | .c => 3 | .d1 => 4 | .d2 => 5 | .d3 => 6

/-- Codes of the origin: absent is 0 (R182). -/
def originCode : Option Origin → Nat
  | none => 0 | some .main => 1 | some .aux => 2 | some .none => 3

/-- The cause codes (R175). -/
def Cause.code : Cause → Nat
  | .engageRefused => 1 | .requestRefused => 2 | .phaseATimeout => 3 | .phaseBTimeout => 4
  | .phaseCTimeout => 5 | .engageAborted => 6 | .throttleDownTimeout => 7 | .neutralTimeout => 8
  | .releaseTimeout => 9 | .parkReleasedPumping => 10 | .creepDetected => 11 | .feedbackMismatch => 12
  | .rollOverspeed => 13 | .speedAbsentRolling => 14 | .signalLost => 15 | .tankUnknown => 16
  | .tankProtection => 17 | .queueOverflow => 18 | .transmitAbandoned => 19 | .portBusFault => 20
  | .activationRefused => 21 | .storeFailed => 22 | .imageInvalid => 23 | .restarted => 24

/-- Codes of the disengage cause: absent 0, OPERATOR 31 (R182). -/
def disCauseCode : Option DisCause → Nat
  | none => 0 | some .operator => 31 | some (.cause c) => c.code

/-- Codes of the lamp setting (R182). -/
def Lamp.code : Lamp → Nat
  | .off => 0 | .on => 1 | .flash => 2

/-- Codes of the port states (R182). -/
def PortSt.code : PortSt → Nat
  | .active => 0 | .quiescing => 1 | .stopped => 2 | .busFault => 3

/-- Codes of the table origin (R182). -/
def TableOrigin.code : TableOrigin → Nat
  | .cleared => 0 | .loading => 1 | .loaded => 2 | .activated => 3

/-- Codes of the slot status (R181). -/
def SlotStatus.code : SlotStatus → Nat
  | .noData => 0 | .healthy => 1 | .suspect => 2 | .lost => 3

/-- Validity codes (R142). -/
def Validity.code : Validity → Nat
  | .valid => 0 | .held => 1 | .unknown => 2 | .disabled => 3

/-- Band codes (R142). -/
def Band.code : Band → Nat
  | .normal => 0 | .low => 1 | .empty => 2 | .none => 3

/-- Severity codes (R181), which also order the severities. -/
def Severity.code : Severity → Nat
  | .note => 0 | .minor => 1 | .major => 2 | .critical => 3

/-- Codes of the default actions (R183). -/
def DefaultAction.code : DefaultAction → Nat
  | .pass => 0 | .block => 1

/-- Codes of the port set (R183). -/
def PortSet.code : PortSet → Nat
  | .chassis => 0 | .body => 1 | .both => 2

/-- Codes of the format (R183). -/
def formatCode : Format → Nat
  | .standard => 0 | .extended => 1

/-- Codes of the byte order (R183). -/
def ByteOrder.code : ByteOrder → Nat
  | .lowFirst => 0 | .highFirst => 1

/-- Codes of the FCT actions (R183). -/
def Action.code : Action → Nat
  | .pass => 0 | .block => 1 | .tap => 2 | .sink => 3 | .clamp => 4 | .rangeGuard => 5

end Sys2Proof.Machine
end

