-- ==== Sys2Proof/Machine/Flags.lean ====
section
/-! DEFINITION. Reports to the Fault Capture Unit: severities, the capture rule and the attention flags (chapter 9). -/

namespace Sys2Proof.Machine

/-- The severity fixed for each cause (R175). -/
def Cause.severity : Cause → Severity
  | .engageRefused => .note
  | .requestRefused => .note
  | .phaseATimeout => .major
  | .phaseBTimeout => .major
  | .phaseCTimeout => .major
  | .engageAborted => .minor
  | .throttleDownTimeout => .minor
  | .neutralTimeout => .major
  | .releaseTimeout => .critical
  | .parkReleasedPumping => .minor
  | .creepDetected => .major
  | .feedbackMismatch => .major
  | .rollOverspeed => .minor
  | .speedAbsentRolling => .minor
  | .signalLost => .minor
  | .tankUnknown => .minor
  | .tankProtection => .note
  | .queueOverflow => .minor
  | .transmitAbandoned => .minor
  | .portBusFault => .major
  | .activationRefused => .note
  | .storeFailed => .major
  | .imageInvalid => .major
  | .restarted => .note

/-- The attention flag of a cause: bit k − 1 for cause code k (R178, R182). -/
def Cause.flag (c : Cause) : BitVec 24 := 1#24 <<< (c.code - 1)

/-- The capture rule (R177): an empty record or one of lower severity takes the report; any other counts it. -/
def captureRule (record : Option Capture) (new : Capture) : Option Capture :=
  match record with
  | none => some new
  | some held =>
    if held.severity.code < new.severity.code then some new
    else some { held with suppressed := min 255 (held.suppressed + 1) }

/-- One report taken by the Fault Capture Unit (R175, R177, R178). -/
def FaultUnit.take (u : FaultUnit) (c : Cause) (index : Option Nat) (app : AppState) (clock : Clock) : FaultUnit :=
  { record := captureRule u.record ⟨c.severity, c, index, app, clock, 0⟩, flags := u.flags ||| c.flag }

/-- A block reports a cause: the report carries the apparatus state and the Frame Clock as they stand (R175). -/
def report (c : Cause) (index : Option Nat) (s : State) : State :=
  { s with faults := s.faults.take c index s.ctl.app s.clock }

end Sys2Proof.Machine
end

