-- ==== Sys2Proof/Machine/Ops.lean ====
section
/-! DEFINITION. The shared operations on ports, queues and local lists (chapter 2). -/

namespace Sys2Proof.Machine

/-! ## Access by port and by queue -/

/-- The record of a port. -/
def State.port (s : State) : Port → PortRec
  | .chassis => s.chassis
  | .body => s.body

/-- The record of a port changed. -/
def State.setPort (s : State) (p : Port) (r : PortRec) : State :=
  match p with
  | .chassis => { s with chassis := r }
  | .body => { s with body := r }

/-- A queue by its name. -/
def State.queue (s : State) : QueueId → Queue
  | .bc => s.bc
  | .cb => s.cb

/-- A queue changed. -/
def State.setQueue (s : State) (q : QueueId) (r : Queue) : State :=
  match q with
  | .bc => { s with bc := r }
  | .cb => { s with cb := r }

/-- The queue toward a port: the one whose destination is that port (R26). -/
def queueToward : Port → QueueId
  | .chassis => .bc
  | .body => .cb

/-- The destination of a queue (R26). -/
def destination : QueueId → Port
  | .bc => .chassis
  | .cb => .body

/-- The port a frame that arrived here is forwarded to (R23). -/
def otherPort : Port → Port
  | .chassis => .body
  | .body => .chassis

/-- Index of a queue in reports (chapter 2). -/
def queueIndex : QueueId → Nat
  | .bc => 0
  | .cb => 1

/-- Index of a port in reports (chapter 2). -/
def portIndex : Port → Nat
  | .chassis => 0
  | .body => 1

/-! ## Port conditions -/

/-- Offers and generated LOCKOUT, STATUS and LEVEL frames are refused: QUIESCING, STOPPED, or BUS_FAULT with a quiesce
pending (R27 case 1, R36). -/
def PortRec.refusesFrames (r : PortRec) : Bool :=
  match r.st with
  | .active => false
  | .quiescing => true
  | .stopped => true
  | .busFault => r.quiescePending

/-- The frame in mid-attempt on the port stands at this source. -/
def PortRec.attempting (r : PortRec) (src : Source) : Bool :=
  match r.attempt with
  | some a => a.source = src
  | none => false

/-! ## Local places -/

/-- A newly generated frame handed to a LOCKOUT, STATUS or LEVEL place (R36, R37): discarded by the port's state,
waiting behind a frame in mid-attempt, or replacing what the place holds. -/
def Place.generate (pl : Place) (refused midAttempt : Bool) (f : LocalFrame) : Place :=
  if refused then pl
  else if midAttempt then { pl with waiting := some f }
  else { cur := some f, waiting := none }

/-- A frame just generated: no attempts yet (R36). -/
def newLocal (f : Frame) : LocalFrame := ⟨f, 0, false⟩

/-- A lockout frame handed to the LOCKOUT place (R120). -/
def placeLockout (f : Frame) (s : State) : State :=
  let place := s.places.lockout.generate s.chassis.refusesFrames (s.chassis.attempting .lockout) (newLocal f)
  { s with places := { s.places with lockout := place } }

/-- A status page handed to the STATUS place (R171). -/
def placeStatus (f : Frame) (s : State) : State :=
  let place := s.places.status.generate s.body.refusesFrames (s.body.attempting .status) (newLocal f)
  { s with places := { s.places with status := place } }

/-- A level report handed to the LEVEL place (R144). -/
def placeLevel (f : Frame) (s : State) : State :=
  let place := s.places.level.generate s.body.refusesFrames (s.body.attempting .level) (newLocal f)
  { s with places := { s.places with level := place } }

/-- The frame in a RESPONSE place. -/
def Places.resp (pl : Places) : RespPlace → Option LocalFrame
  | .first => pl.resp1
  | .second => pl.resp2

/-- The other RESPONSE place. -/
def RespPlace.other : RespPlace → RespPlace
  | .first => .second
  | .second => .first

/-- A RESPONSE place changed. -/
def Places.setResp (pl : Places) (p : RespPlace) (f : Option LocalFrame) : Places :=
  match p with
  | .first => { pl with resp1 := f }
  | .second => { pl with resp2 := f }

/-- A response put into its claimed place; the place already holding a response was filled earlier (R36, R38). -/
def placeResponse (p : RespPlace) (f : Frame) (s : State) : State :=
  let older := if (s.places.resp p.other).isSome then p.other else p
  { s with places := { s.places.setResp p (some (newLocal f)) with respOlder := older } }

/-- The frame at a local source; none for the output stage. -/
def Places.at (pl : Places) : Source → Option LocalFrame
  | .lockout => pl.lockout.cur
  | .response p => pl.resp p
  | .busy => pl.busy
  | .status => pl.status.cur
  | .level => pl.level.cur
  | .output => none

/-- The frame at a local source changed; nothing for the output stage. -/
def Places.setAt (pl : Places) (src : Source) (f : Option LocalFrame) : Places :=
  match src with
  | .lockout => { pl with lockout := { pl.lockout with cur := f } }
  | .response p => pl.setResp p f
  | .busy => { pl with busy := f }
  | .status => { pl with status := { pl.status with cur := f } }
  | .level => { pl with level := { pl.level with cur := f } }
  | .output => pl

/-- The end of an attempt at a place: a waiting replacement takes the place, or is discarded by the port's state (R37). -/
def Place.endAttempt (pl : Place) (refused : Bool) : Place :=
  match pl.waiting with
  | none => pl
  | some f => if refused then { pl with waiting := none } else { cur := some f, waiting := none }

/-- The end of an attempt at a source: its place settles its waiting replacement (R37). -/
def Places.endAttempt (pl : Places) (src : Source) (refused : Bool) : Places :=
  match src with
  | .lockout => { pl with lockout := pl.lockout.endAttempt refused }
  | .status => { pl with status := pl.status.endAttempt refused }
  | .level => { pl with level := pl.level.endAttempt refused }
  | .response _ => pl
  | .busy => pl
  | .output => pl

/-- Index of a local place in TRANSMIT_ABANDONED (R34); a record carries its queue's. -/
def Source.index (src : Source) (p : Port) : Nat :=
  match src with
  | .lockout => 2
  | .response .first => 3
  | .response .second => 4
  | .busy => 5
  | .status => 6
  | .level => 7
  | .output => queueIndex (queueToward p)

/-! ## Queues -/

/-- The identifier-and-format match of a supersede: both latest-only (R27 case 2). -/
def FrameRecord.supersedes (new old : FrameRecord) : Bool :=
  new.latestOnly && old.latestOnly && old.ident == new.ident && old.format == new.format

/-- A body record with the offered content in its place and its attempt count of 0 (R28). -/
def FrameRecord.replaceBy (old new : FrameRecord) : FrameRecord :=
  { old with
    length := new.length, data := new.data, action := new.action, latestOnly := new.latestOnly, edit := new.edit,
    fullScale := new.fullScale, attempts := 0 }

/-- The body with its first match superseded in place (R28). -/
def supersedeIn (new : FrameRecord) : List FrameRecord → List FrameRecord
  | [] => []
  | r :: rest => if new.supersedes r then r.replaceBy new :: rest else r :: supersedeIn new rest

/-- The offer of a record to a queue (R27): dropped-stopped, superseding, dropped-full or entering. -/
def offer (q : QueueId) (r : FrameRecord) (s : State) : State :=
  let u := s.queue q
  if (s.port (destination q)).refusesFrames then s.setQueue q { u with droppedStopped := u.droppedStopped + 1 }
  else if u.body.any r.supersedes then
    s.setQueue q { u with body := supersedeIn r u.body, superseded := u.superseded + 1 }
  else if 16 ≤ u.body.length then
    report .queueOverflow (some (queueIndex q)) (s.setQueue q { u with droppedFull := u.droppedFull + 1 })
  else s.setQueue q { u with body := u.body ++ [r], entered := u.entered + 1 }

/-- The oldest body record moves into an empty output stage (R29). -/
def Queue.move (u : Queue) : Queue :=
  match u.out, u.body with
  | none, r :: rest => { u with out := some r, body := rest }
  | _, _ => u

/-- The number of records a queue holds (R30). -/
def Queue.held (u : Queue) : Nat := u.body.length + (if u.out.isSome then 1 else 0)

/-! ## Draining -/

/-- A place is empty, with no replacement waiting. -/
def Place.isEmpty (pl : Place) : Bool := pl.cur.isNone && pl.waiting.isNone

/-- The port is drained (R42); the RESPONSE and BUSY places take no part. -/
def State.drained (s : State) (p : Port) : Bool :=
  (s.queue (queueToward p)).body.isEmpty && (s.queue (queueToward p)).out.isNone
  && (match p with
      | .chassis => s.places.lockout.isEmpty
      | .body => s.places.status.isEmpty && s.places.level.isEmpty)

/-- A QUIESCING port that is drained enters STOPPED (R42). -/
def settleDrained (p : Port) (s : State) : State :=
  if (s.port p).st = .quiescing ∧ s.drained p then s.setPort p { s.port p with st := .stopped } else s

end Sys2Proof.Machine
end

