-- ==== Sys2Proof/Machine/Tracker.lean ====
section
/-! DEFINITION. Signal slots: conversion and grading, what an error event and a good update do to a slot, and how
consumers read slots (chapter 3). -/

namespace Sys2Proof.Machine

/-! ## Reading (R64) -/

/-- The value of a usable slot: HEALTHY or SUSPECT (R64). -/
def Slot.usable (x : Slot) : Option Int :=
  match x.status with
  | .healthy => x.value
  | .suspect => x.value
  | .noData => none
  | .lost => none

/-- The value of a present slot: usable, or LOST and still holding a value (R64). -/
def Slot.present (x : Slot) : Option Int :=
  match x.status with
  | .healthy => x.value
  | .suspect => x.value
  | .lost => x.value
  | .noData => none

/-- The value a role's slot shows as usable; an unbound role shows none (notes/assumptions/13.md). -/
def State.usable (s : State) (r : Role) : Option Int :=
  match s.tables.active.roles.get r with
  | some i => s.slots[i].usable
  | none => none

/-- The value a role's slot shows as present; an unbound role shows none (notes/assumptions/13.md). -/
def State.present (s : State) (r : Role) : Option Int :=
  match s.tables.active.roles.get r with
  | some i => s.slots[i].present
  | none => none

/-- "Usable and at most the limit" (R64). -/
def State.usableAtMost (s : State) (r : Role) (limit : Nat) : Bool :=
  match s.usable r with
  | some v => v ≤ (limit : Int)
  | none => false

/-- "Usable and greater than the limit" (R64). -/
def State.usableAbove (s : State) (r : Role) (limit : Nat) : Bool :=
  match s.usable r with
  | some v => (limit : Int) < v
  | none => false

/-- "Usable and equal to the code" (R64). -/
def State.usableIs (s : State) (r : Role) (code : Nat) : Bool := s.usable r = some (code : Int)

/-! ## Grading an update (R53 to R56) -/

/-- What an update event carries (R53). -/
inductive Update
  | raw (r w : Nat)
  | shortFrame
  deriving DecidableEq, Repr

/-- An integer brought into low..high. -/
def clampInt (low high v : Int) : Int := if v < low then low else if high < v then high else v

/-- The engineering value of a raw value (R55). -/
def SlotDef.convert (d : SlotDef) (r : Nat) : Int :=
  clampInt (-32768) 32767 (((r * d.gain / 1024 : Nat) : Int) + d.offset)

/-- The grading of an update: the good value, or none for an error event (R53 to R56). -/
def SlotDef.grade (d : SlotDef) : Update → Option Int
  | .shortFrame => none
  | .raw r w =>
    if notAvailable w r then none
    else
      let eng := d.convert r
      if eng < d.plausMin ∨ d.plausMax < eng then none else some eng

/-! ## Countdowns of a slot -/

/-- The load of the freshness countdown: stopped where the interval is 0 (R57, R70). -/
def SlotDef.freshLoad (d : SlotDef) : Option Nat := if d.freshness = 0 then none else some d.freshness

/-- The hold countdown as it is started (R63); hold time 0 expires within the event. -/
def SlotDef.holdLoad (d : SlotDef) : HoldTimer :=
  if d.holdTime = 0 then .expired
  else if d.holdTime = 255 then .never
  else .running (d.holdTime * 100)

/-- The hold countdown started on a slot: with hold time 0 the value becomes absent at once (R63). -/
def Slot.startHold (x : Slot) (d : SlotDef) : Slot :=
  { x with hold := d.holdLoad, value := if d.holdTime = 0 then none else x.value }

/-! ## Health -/

/-- The status after an error that leaves HC below 255 (R58). -/
def statusAfterError (st : SlotStatus) (hc : Nat) : SlotStatus :=
  match st with
  | .noData => .noData
  | .healthy => if hc < 64 then .healthy else .suspect
  | .suspect => .suspect
  | .lost => .lost

/-- An error event at a slot (R58 to R60). The freshness countdown is left to R57. -/
def Slot.takeError (x : Slot) (d : SlotDef) : Slot :=
  if x.status = .lost then
    if x.recovery = 0 then { x with hc := 255 } else { x with hc := 255, recovery := 0 }.startHold d
  else
    let hc := min 255 (x.hc + d.errorStep)
    if hc = 255 then { x with hc := 255, status := .lost, recovery := 0 }.startHold d
    else { x with hc := hc, status := statusAfterError x.status hc, recovery := 0 }

/-- A good update at a slot (R61, R62). -/
def Slot.takeGood (x : Slot) (d : SlotDef) (clock : Clock) (eng : Int) : Slot :=
  let y := { x with value := some eng, stamp := some clock, freshness := d.freshLoad }
  if x.status = .lost then
    if x.recovery + 1 < 8 then { y with hc := 255, recovery := x.recovery + 1, hold := .stopped }
    else { y with hc := 63, status := .healthy, recovery := 0, hold := .stopped }
  else
    let hc := x.hc - 1
    { y with hc := hc, status := if hc < 64 then .healthy else .suspect, recovery := 0 }

/-- The error event enters LOST, and so reports SIGNAL_LOST (R59). -/
def Slot.entersLost (x y : Slot) : Bool := x.status ≠ .lost ∧ y.status = .lost

/-- A slot after its reset, under its definition in the bank in force (R70). -/
def SlotDef.resetSlot (d : SlotDef) : Slot := ⟨none, .noData, 0, 0, d.freshLoad, .stopped, none⟩

/-- A slot changed in the state. -/
def State.setSlot (s : State) (i : Fin 32) (x : Slot) : State := { s with slots := s.slots.set i x }

end Sys2Proof.Machine
end

