-- ==== Sys2Proof/Machine/Ceiling.lean ====
section
/-! DEFINITION. The Ceiling and Lockout Unit: pump protection (R140), the evaluation of E, the rewrites of an attempt, and
the lockout content with its frames (chapter 5). -/

namespace Sys2Proof.Machine

/-! ## Pump protection (R140) -/

/-- The compartment takes part in condition 2: enabled, feeding the pump, and VALID or HELD. -/
def State.countsForPump (s : State) (c : Fin 4) : Bool :=
  s.tables.active.comps[c].enabled && s.tables.active.comps[c].feedsPump
  && (s.tank.comps[c].validity == .valid || s.tank.comps[c].validity == .held)

/-- Condition 2 of R140: some compartment takes part, and every one that does is EMPTY. -/
def State.feedsEmpty (s : State) : Bool :=
  (List.finRange 4).any s.countsForPump
  && (List.finRange 4).all (fun c => !s.countsForPump c || s.tank.comps[c].band == .empty)

/-- Condition 3 of R140: no usable intake pressure at or above the minimum. -/
def State.noIntake (s : State) : Bool :=
  match s.usable .intakePressure with
  | none => true
  | some v => v < s.tables.active.params.intakeMin

/-- The pump protection condition (R140). -/
def State.protectionHolds (s : State) : Bool :=
  (s.ctl.app == .pump || s.ctl.app == .roll) && s.feedsEmpty && s.noIntake

/-! ## The effective ceiling -/

/-- The mode base (R109). -/
def modeBase (app : AppState) (p : Params) : Nat :=
  match app with
  | .unloaded => 1000
  | .road => 1000
  | .pump => p.pumpMax
  | .roll => p.rollMax
  | .mainEngaging => 0
  | .auxEngaging => 0
  | .disengaging => 0
  | .faultHold => 0

/-- The target T: the least of the five contributions (R109, R110). -/
def State.target (s : State) : Nat :=
  min (modeBase s.ctl.app s.tables.active.params)
    (min (if s.ctl.guard then 0 else 1000)
      (min (if s.ctl.overspeed then 0 else 1000)
        (min (if s.ctl.speedAbsent then 0 else 1000)
          (if s.protectionHolds then s.tables.active.params.protCeiling else 1000))))

/-- The rise step, 0 being taken as 1000 (R112). -/
def Params.rise (p : Params) : Nat := if p.riseStep = 0 then 1000 else p.riseStep

/-- E moved toward T: a fall whole, a rise by one step (R112). -/
def moveCeiling (e t r : Nat) : Nat := if t < e then t else min t (e + r)

/-- One evaluation of the ceiling (R109 to R112): protection's onset is reported, and E moves toward T. -/
def evaluateCeiling (s : State) : State :=
  let holds := s.protectionHolds
  let e := moveCeiling s.ceil.e s.target s.tables.active.params.rise
  let s := if holds ∧ s.ceil.protection = false then report .tankProtection none s else s
  { s with ceil := { s.ceil with e := e, protection := holds } }

/-! ## Lockout frames -/

/-- The lock-state code of a content (R119); not emitting has none and forms no frame. -/
def Content.lockCode : Content → Nat
  | .notEmitting => 0
  | .none => 0
  | .holdNeutral => 1
  | .holdPump => 2
  | .restrict => 3

/-- The range code a content carries (R119). -/
def State.contentRange (s : State) (c : Content) : Nat :=
  match c with
  | .notEmitting => s.tables.active.params.neutral
  | .none => s.tables.active.params.neutral
  | .holdNeutral => s.tables.active.params.neutral
  | .holdPump => s.tables.active.params.pumpRange
  | .restrict => s.ceil.lastRange

/-- A lockout frame formed from the template with a lock-state code and a range code (R122). The identifier is the
template's, all 29 bits of it in either format: for a STANDARD template with an identifier above 2047 the manual does not
say what leaves (DESIGN CHOICE: notes/assumptions/26.md). -/
def Template.form (t : Template) (lock range : Nat) : Frame :=
  { format := t.format, kind := .data, ident := t.ident, length := t.length
    data := writeField t.rangeField range (writeField t.lockField lock (t.data.toList.take t.length)) }

/-- The lockout frame for a content, formed as things stand (R119, R122). -/
def State.lockoutFrame (s : State) (c : Content) : Frame :=
  s.tables.active.template.form c.lockCode (s.contentRange c)

/-- The load of the reassertion timer: P × 16 ms, and 4096 ms for P = 0 (R120). -/
def Params.reassertLoad (p : Params) : Nat := if p.period = 0 then 4096 else p.period * 16

/-- The placement of a lockout frame for the content in force, loading the reassertion timer (R120, R121). -/
def emitLockout (s : State) : State :=
  let s := placeLockout (s.lockoutFrame s.ceil.content) s
  { s with ceil := { s.ceil with reassert := some s.tables.active.params.reassertLoad } }

/-- The content after a change to it: NONE stands for its one emission only (R119, R120). -/
def changeContent (c : Content) (s : State) : State :=
  match c with
  | .notEmitting => { s with ceil := { s.ceil with content := .notEmitting, reassert := none } }
  | .none =>
    let s := placeLockout (s.lockoutFrame .none) s
    { s with ceil := { s.ceil with content := .notEmitting, reassert := none } }
  | .holdNeutral => emitLockout { s with ceil := { s.ceil with content := .holdNeutral } }
  | .holdPump => emitLockout { s with ceil := { s.ceil with content := .holdPump } }
  | .restrict => emitLockout { s with ceil := { s.ceil with content := .restrict } }

/-- The controller names a content: naming the content in force is no change and places nothing (R75, R119). -/
def nameContent (c : Content) (s : State) : State := if s.ceil.content = c then s else changeContent c s

/-! ## The rewrite at the start of an attempt -/

/-- The value a CLAMP field leaves with: the not-available pattern as it arrived, else at most the limit (R115). -/
def clampValue (e scale width f : Nat) : Nat :=
  if notAvailable width f then f else min f (e * scale / 1000)

/-- The value a RANGE_GUARD field leaves with (R116). No call is made in UNLOADED (section 5.3); the value is then f
(notes/assumptions/15.md). -/
def State.guardValue (s : State) (f : Nat) : Nat :=
  match s.ctl.app with
  | .unloaded => f
  | .road => f
  | .mainEngaging => if s.ctl.phase = .c then s.tables.active.params.pumpRange else s.tables.active.params.neutral
  | .pump => s.tables.active.params.pumpRange
  | .auxEngaging => s.tables.active.params.neutral
  | .roll => if f ∈ s.tables.active.params.rollSet then f else s.ceil.lastRange
  | .disengaging => s.tables.active.params.neutral
  | .faultHold => s.tables.active.params.neutral

/-- What a RANGE_GUARD call changes in the unit (R116, R117): the last forwarded range in ROAD and, for an allowed code,
in ROLL, where a new code is also a change of the content RESTRICT. -/
def guardEffect (f : Nat) (s : State) : State :=
  match s.ctl.app with
  | .road => { s with ceil := { s.ceil with lastRange := f } }
  | .roll =>
    if f ∈ s.tables.active.params.rollSet ∧ f ≠ s.ceil.lastRange then
      changeContent .restrict { s with ceil := { s.ceil with lastRange := f } }
    else s
  | _ => s

/-- The frame of a record with given data. -/
def FrameRecord.frame (r : FrameRecord) (data : List Byte) : Frame := ⟨r.format, r.kind, r.ident, r.length, data⟩

/-- The outgoing data of a record at an attempt start (R32, R115, R116). -/
def State.outgoing (s : State) (r : FrameRecord) : List Byte :=
  match r.action, r.edit, r.fullScale with
  | .clamp, some f, some scale =>
    writeField f (clampValue s.ceil.e scale f.width (readField f r.data)) r.data
  | .rangeGuard, some f, _ => writeField f (s.guardValue (readField f r.data)) r.data
  | _, _, _ => r.data

/-- What the rewrite of a record changes in the Ceiling and Lockout Unit (R114, R117). -/
def rewriteEffect (r : FrameRecord) (s : State) : State :=
  match r.action, r.edit with
  | .rangeGuard, some f => guardEffect (readField f r.data) s
  | _, _ => s

end Sys2Proof.Machine
end

