-- ==== Sys2Proof/Machine/Interlock.lean ====
section
/-! DEFINITION. The Drive Interlock Controller: entries into states and phases, requests, and what the controller does at
each of its events (chapter 4). The entries are written from the last one back, since one event may pass through
several (R78). -/

namespace Sys2Proof.Machine

/-! ## Shared parts of an entry (R75, R76) -/

/-- The lamp setting taken, with the pin's level; FLASH starts with its high half and keeps its rhythm (R106). -/
def Controller.setLamp (c : Controller) (l : Lamp) : Controller :=
  match l with
  | .off => { c with lamp := .off, lampHigh := false, flash := none }
  | .on => { c with lamp := .on, lampHigh := true, flash := none }
  | .flash => if c.lamp = .flash then c else { c with lamp := .flash, lampHigh := true, flash := some 500 }

/-- The flags that a change of apparatus state clears, unless the new state is the one that uses them (R75). -/
def Controller.changeApp (c : Controller) (new : AppState) : Controller :=
  { c with
    app := new
    guard := c.guard && new == .pump
    creep := if new = .pump then c.creep else none
    overspeed := c.overspeed && new == .roll
    speedAbsent := c.speedAbsent && new == .roll
    mismatch := c.mismatch && new == .road }

/-- The load of the phase timer: v × 10 ms, and 40960 ms for 0 (R77). -/
def phaseLoad (v : Nat) : Nat := if v = 0 then 40960 else v * 10

/-- The controller's record changed. -/
def State.setCtl (s : State) (c : Controller) : State := { s with ctl := c }

/-- Both feedbacks are inactive, as debounced (R79). -/
def State.feedbacksClear (s : State) : Bool := !s.ctl.mainFb.active && !s.ctl.auxFb.active

/-- CURRENT_RANGE is usable and equals the neutral code. -/
def State.rangeNeutral (s : State) : Bool := s.usableIs .currentRange s.tables.active.params.neutral

/-- ENGINE_SPEED is usable and at most the engage max. -/
def State.engineSlow (s : State) : Bool := s.usableAtMost .engineSpeed s.tables.active.params.engageMax

/-- ROAD_SPEED is usable and above the stationary limit (R89). -/
def State.moving (s : State) : Bool := s.usableAbove .roadSpeed s.tables.active.params.stationary

/-! ## Disengaging and its ends (R98 to R102) -/

/-- The return to ROAD at the end of D3 or at the FAULT_HOLD exit, with one NONE emission (R101, R102). -/
def returnToRoad (s : State) : State :=
  let c := s.ctl.changeApp .road
  let c := { c with
    phase := .none, origin := none, cause := none, phaseTimer := none, mainShift := false, auxClutch := false }
  let s := s.setCtl (c.setLamp (if c.mismatch then .flash else .off))
  evaluateCeiling (nameContent .none s)

/-- The conditions that end FAULT_HOLD (R102). -/
def State.faultHoldOver (s : State) : Bool := s.ctl.lastReq == some .road && s.feedbacksClear && s.rangeNeutral

/-- The test for the FAULT_HOLD exit (R102). -/
def testFaultHold (s : State) : State := if s.faultHoldOver then returnToRoad s else s

/-- The entry into FAULT_HOLD after RELEASE_TIMEOUT has been reported (R101, R102). -/
def enterFaultHold (s : State) : State :=
  let c := s.ctl.changeApp .faultHold
  let c := { c with
    phase := .none, origin := none, cause := some (.cause .releaseTimeout), phaseTimer := none,
    mainShift := false, auxClutch := false }
  testFaultHold (evaluateCeiling (nameContent .holdNeutral (s.setCtl (c.setLamp .flash))))

/-- The end of D3: both feedbacks inactive (R101). -/
def testD3 (s : State) : State := if s.feedbacksClear then returnToRoad s else s

/-- The entry into D3: both drive outputs off (R101). -/
def enterD3 (s : State) : State :=
  let c := { s.ctl with
    phase := .d3, phaseTimer := some (phaseLoad s.tables.active.params.tB), mainShift := false, auxClutch := false }
  testD3 (nameContent .holdNeutral (s.setCtl c))

/-- The end of D2: the range is neutral (R100). -/
def testD2 (s : State) : State := if s.rangeNeutral then enterD3 s else s

/-- The entry into D2 (R100). -/
def enterD2 (s : State) : State :=
  let c := { s.ctl with phase := .d2, phaseTimer := some (phaseLoad s.tables.active.params.tA) }
  testD2 (nameContent .holdNeutral (s.setCtl c))

/-- The end of D1: the engine is slow (R99). -/
def testD1 (s : State) : State := if s.engineSlow then enterD2 s else s

/-- The origin of a disengaging, from the output asserted when it begins (R98). -/
def Controller.outputOrigin (c : Controller) : Origin :=
  if c.mainShift then .main else if c.auxClutch then .aux else .none

/-- The entry into DISENGAGING (R98): outputs and lockout content stay, and the ceiling is evaluated before D1 is
tested (R111). -/
def enterDisengaging (cause : DisCause) (s : State) : State :=
  let c := s.ctl.changeApp .disengaging
  let c := { c with
    phase := .d1, origin := some s.ctl.outputOrigin, cause := some cause,
    phaseTimer := some (phaseLoad s.tables.active.params.tD1) }
  testD1 (evaluateCeiling (s.setCtl (c.setLamp .off)))

/-- A cause is reported in the state left, and DISENGAGING begins with it (R76, R98). -/
def disengageFor (cause : Cause) (index : Option Nat) (s : State) : State :=
  enterDisengaging (.cause cause) (report cause index s)

/-! ## Pumping and rolling (R94 to R97) -/

/-- The creep test (R95): a creep time of 0 expires within the same event. -/
def testCreep (s : State) : State :=
  if s.usableAbove .roadSpeed s.tables.active.params.creepLimit then
    if s.ctl.creep.isSome then s
    else if s.tables.active.params.creepTime = 0 then disengageFor .creepDetected none s
    else s.setCtl { s.ctl with creep := some s.tables.active.params.creepTime }
  else s.setCtl { s.ctl with creep := none }

/-- The roll flags set from ROAD_SPEED, with a report at each change from clear to set (R97). -/
def updateRollFlags (s : State) : State :=
  let tooFast := match s.present .roadSpeed with
    | some v => decide ((s.tables.active.params.rollSpeedLimit : Int) < v)
    | none => false
  let absent := (s.present .roadSpeed).isNone
  let t := s.setCtl { s.ctl with overspeed := tooFast, speedAbsent := absent }
  let t := if tooFast ∧ s.ctl.overspeed = false then report .rollOverspeed none t else t
  if absent ∧ s.ctl.speedAbsent = false then report .speedAbsentRolling none t else t

/-- The entry into PUMP (R94), the ceiling evaluated before the creep test (R111; notes/assumptions/17.md). -/
def enterPump (s : State) : State :=
  let c := s.ctl.changeApp .pump
  let c := { c with phase := .none, phaseTimer := none, mainShift := true, auxClutch := false }
  let s := s.setCtl (c.setLamp (if c.guard then .flash else .on))
  testCreep (evaluateCeiling (nameContent .holdPump s))

/-- The entry into ROLL (R92): last forwarded range to neutral, content RESTRICT, roll flags, then the evaluation. -/
def enterRoll (s : State) : State :=
  let c := s.ctl.changeApp .roll
  let c := { c with phase := .none, phaseTimer := none, mainShift := false, auxClutch := true }
  let s := s.setCtl (c.setLamp .on)
  let s := { s with ceil := { s.ceil with lastRange := s.tables.active.params.neutral } }
  evaluateCeiling (updateRollFlags (nameContent .restrict s))

/-! ## Engaging (R86 to R93) -/

/-- The end of MAIN_ENGAGING C: the range is the pump range (R88). -/
def testMainC (s : State) : State :=
  if s.usableIs .currentRange s.tables.active.params.pumpRange then enterPump s else s

/-- The entry into MAIN_ENGAGING C (R88). -/
def enterMainC (s : State) : State :=
  let c := { s.ctl with phase := .c, phaseTimer := some (phaseLoad s.tables.active.params.tC) }
  testMainC (nameContent .holdPump (s.setCtl c))

/-- The entry into MAIN_ENGAGING B (R87), which ends at once when MAIN_FB is already active. -/
def enterMainB (s : State) : State :=
  let c := { s.ctl with
    phase := .b, phaseTimer := some (phaseLoad s.tables.active.params.tB), mainShift := true }
  let s := nameContent .holdNeutral (s.setCtl c)
  if s.ctl.mainFb.active then enterMainC s else s

/-- The entry into AUX_ENGAGING B (R92), which ends at once when AUX_FB is already active. -/
def enterAuxB (s : State) : State :=
  let c := { s.ctl with
    phase := .b, phaseTimer := some (phaseLoad s.tables.active.params.tB), auxClutch := true }
  let s := nameContent .holdNeutral (s.setCtl c)
  if s.ctl.auxFb.active then enterRoll s else s

/-- The three conditions that end phase A of either engagement (R86, R91). -/
def State.phaseADone (s : State) : Bool := s.ctl.confirmed && s.rangeNeutral && s.engineSlow

/-- The end of phase A (R86, R91). -/
def testPhaseA (s : State) : State :=
  if s.phaseADone then
    match s.ctl.app with
    | .mainEngaging => enterMainB s
    | .auxEngaging => enterAuxB s
    | _ => s
  else s

/-- The lockout frames held are marked as generated before this entry into phase A (R86). -/
def Place.markStale (pl : Place) : Place :=
  { cur := pl.cur.map fun f => { f with stale := true }, waiting := pl.waiting.map fun f => { f with stale := true } }

/-- The entry into phase A of either engagement (R86, R91). -/
def enterPhaseA (app : AppState) (s : State) : State :=
  let c := s.ctl.changeApp app
  let c := { c with
    phase := .a, phaseTimer := some (phaseLoad s.tables.active.params.tA), confirmed := false,
    mainShift := false, auxClutch := false }
  let s := s.setCtl (c.setLamp .off)
  let s := { s with places := { s.places with lockout := s.places.lockout.markStale } }
  testPhaseA (evaluateCeiling (nameContent .holdNeutral s))

/-! ## Requests (R81 to R84) -/

/-- The number of the first condition that fails. -/
def firstFailing : List (Nat × Bool) → Option Nat
  | [] => none
  | (n, ok) :: rest => if ok then firstFailing rest else some n

/-- Preconditions 2 to 6 (R83). -/
def State.commonPreconditions (s : State) : List (Nat × Bool) :=
  [(2, s.usableAtMost .roadSpeed s.tables.active.params.stationary), (3, s.engineSlow), (4, s.rangeNeutral),
   (5, s.feedbacksClear), (6, s.chassis.st == .active)]

/-- The first main precondition that fails (R83). -/
def State.mainRefusal (s : State) : Option Nat :=
  firstFailing ((1, s.ctl.park.active) :: s.commonPreconditions)

/-- The first roll precondition that fails (R84). -/
def State.rollRefusal (s : State) : Option Nat :=
  firstFailing (s.commonPreconditions ++ [(7, decide (0 < s.tables.active.params.rollSpeedLimit))])

/-- A request event, by the apparatus state (R82); the last request taken has been set. -/
def requestEvent (r : Request) (s : State) : State :=
  match s.ctl.app with
  | .unloaded => s
  | .road =>
    match r with
    | .road => s
    | .pump =>
      match s.mainRefusal with
      | some n => report .engageRefused (some n) s
      | none => enterPhaseA .mainEngaging s
    | .roll =>
      match s.rollRefusal with
      | some n => report .engageRefused (some n) s
      | none => enterPhaseA .auxEngaging s
  | .mainEngaging | .pump =>
    match r with
    | .road => enterDisengaging .operator s
    | .pump => s
    | .roll => report .requestRefused (some 2) s
  | .auxEngaging | .roll =>
    match r with
    | .road => enterDisengaging .operator s
    | .pump => report .requestRefused (some 1) s
    | .roll => s
  | .disengaging => s
  | .faultHold => testFaultHold s

/-- The request a MODE_REQUEST value stands for (R65, R81). -/
def requestOf (v : Int) : Option Request :=
  if v = 0 then some .road else if v = 1 then some .pump else if v = 2 then some .roll else none

/-- A request value taken from a MODE_REQUEST notification (R81). -/
def takeRequestValue (v : Int) (s : State) : State :=
  if s.ctl.app = .unloaded then s
  else
    match requestOf v with
    | none => s
    | some r =>
      if s.ctl.seeded = false then s.setCtl { s.ctl with seeded := true, lastReq := some r }
      else if s.ctl.lastReq = some r then s
      else requestEvent r (s.setCtl { s.ctl with lastReq := some r })

/-! ## Notifications of the Signal Tracker (R66, R78) -/

/-- A ROAD_SPEED notification (R89, R93, R95, R97). -/
def onRoadSpeed (s : State) : State :=
  match s.ctl.app with
  | .mainEngaging => if s.moving then disengageFor .engageAborted (some 2) s else s
  | .auxEngaging => if s.moving then disengageFor .engageAborted (some 2) s else s
  | .pump => testCreep s
  | .roll => updateRollFlags s
  | .unloaded | .road | .disengaging | .faultHold => s

/-- An ENGINE_SPEED notification (R86, R91, R99). -/
def onEngineSpeed (s : State) : State :=
  match s.ctl.phase with
  | .a => testPhaseA s
  | .d1 => testD1 s
  | .none | .b | .c | .d2 | .d3 => s

/-- A CURRENT_RANGE notification (R86, R88, R91, R100, R102). -/
def onCurrentRange (s : State) : State :=
  match s.ctl.phase with
  | .a => testPhaseA s
  | .c => testMainC s
  | .d2 => testD2 s
  | .none => if s.ctl.app = .faultHold then testFaultHold s else s
  | .b | .d1 | .d3 => s

/-- A notification of a role, with the request value that a MODE_REQUEST notification may carry (R66). -/
def notify (r : Role) (value : Option Int) (s : State) : State :=
  match r with
  | .roadSpeed => onRoadSpeed s
  | .engineSpeed => onEngineSpeed s
  | .currentRange => onCurrentRange s
  | .modeRequest =>
    match value with
    | some v => takeRequestValue v s
    | none => s
  | .intakePressure => s

/-! ## Other events of the controller (R78) -/

/-- A debounced PARK_SW change (R89, R94). -/
def onPark (s : State) : State :=
  match s.ctl.app with
  | .mainEngaging => if s.ctl.park.active then s else disengageFor .engageAborted (some 1) s
  | .pump =>
    if s.ctl.park.active then evaluateCeiling (s.setCtl ({ s.ctl with guard := false }.setLamp .on))
    else
      evaluateCeiling (report .parkReleasedPumping none (s.setCtl ({ s.ctl with guard := true }.setLamp .flash)))
  | .unloaded | .road | .auxEngaging | .roll | .disengaging | .faultHold => s

/-- A feedback change in ROAD (R103): `active` is the changed feedback's new level. -/
def roadFeedback (index : Nat) (active : Bool) (s : State) : State :=
  if active then
    report .feedbackMismatch (some index) (s.setCtl ({ s.ctl with mismatch := true }.setLamp .flash))
  else if s.feedbacksClear then s.setCtl ({ s.ctl with mismatch := false }.setLamp .off)
  else s

/-- A debounced MAIN_FB change (R87, R90, R96, R101, R102, R103). -/
def onMainFb (s : State) : State :=
  let active := s.ctl.mainFb.active
  let wrong := disengageFor .feedbackMismatch (some 0)
  match s.ctl.app with
  | .unloaded => s
  | .road => roadFeedback 0 active s
  | .mainEngaging =>
    match s.ctl.phase with
    | .a => if active then wrong s else s
    | .b => if active then enterMainC s else s
    | .c => if active then s else wrong s
    | .none | .d1 | .d2 | .d3 => s
  | .pump => if active then s else wrong s
  | .auxEngaging => if active then wrong s else s
  | .roll => if active then wrong s else s
  | .disengaging => if s.ctl.phase = .d3 then testD3 s else s
  | .faultHold => testFaultHold s

/-- A debounced AUX_FB change (R90, R92, R96, R101, R102, R103). -/
def onAuxFb (s : State) : State :=
  let active := s.ctl.auxFb.active
  let wrong := disengageFor .feedbackMismatch (some 1)
  match s.ctl.app with
  | .unloaded => s
  | .road => roadFeedback 1 active s
  | .mainEngaging => if active then wrong s else s
  | .pump => if active then wrong s else s
  | .auxEngaging =>
    match s.ctl.phase with
    | .a => if active then wrong s else s
    | .b => if active then enterRoll s else s
    | .none | .c | .d1 | .d2 | .d3 => s
  | .roll => if active then s else wrong s
  | .disengaging => if s.ctl.phase = .d3 then testD3 s else s
  | .faultHold => testFaultHold s

/-- The success of a lockout frame, in phase A of either engagement (R86, R91). -/
def onLockoutSuccess (stale : Bool) (s : State) : State :=
  match s.ctl.phase with
  | .a => testPhaseA (s.setCtl { s.ctl with confirmed := s.ctl.confirmed || !stale })
  | .none | .b | .c | .d1 | .d2 | .d3 => s

/-- The expiry of the phase timer (R77). -/
def onPhaseTimer (s : State) : State :=
  match s.ctl.phase with
  | .none => s
  | .a => disengageFor .phaseATimeout none s
  | .b => disengageFor .phaseBTimeout none s
  | .c => disengageFor .phaseCTimeout none s
  | .d1 => enterD2 (report .throttleDownTimeout none s)
  | .d2 => enterD3 (report .neutralTimeout none s)
  | .d3 => enterFaultHold (report .releaseTimeout none s)

/-- The entry into ROAD from UNLOADED, with the road mismatch test (R103, R104). The reports carry ROAD
(notes/assumptions/7.md). -/
def leaveUnloaded (s : State) : State :=
  let c := s.ctl.changeApp .road
  let c := { c with phase := .none, phaseTimer := none, mainShift := false, auxClutch := false,
                    mismatch := c.mainFb.active || c.auxFb.active }
  let s := nameContent .notEmitting (s.setCtl (c.setLamp (if c.mismatch then .flash else .off)))
  let s := if s.ctl.mainFb.active then report .feedbackMismatch (some 0) s else s
  let s := if s.ctl.auxFb.active then report .feedbackMismatch (some 1) s else s
  evaluateCeiling s

/-- The controller's part at the completion of an activation or of a power-up load (R73, R104). -/
def onTablesTaken (s : State) : State :=
  let s := s.setCtl { s.ctl with seeded := false, lastReq := none }
  if s.ctl.app = .unloaded then leaveUnloaded s else s

/-- A debouncer whose pin may differ from its level: the countdown is started at 20 ms or cancelled (R79). -/
def Debouncer.settle (d : Debouncer) : Debouncer :=
  if d.pinLow = d.active then { d with countdown := none }
  else if d.countdown.isNone then { d with countdown := some 20 }
  else d

/-- A debouncer after a reset: inactive, its pin found as it is (R80). -/
def Debouncer.reset (d : Debouncer) : Debouncer := Debouncer.settle ⟨d.pinLow, false, none⟩

/-- The controller's starting record in a state, at any reset (R73); the pins are as they are. -/
def Controller.start (c : Controller) (app : AppState) : Controller :=
  { app := app, phase := .none, origin := none, cause := none, phaseTimer := none, lastReq := none, seeded := false,
    confirmed := false, guard := false, creep := none, overspeed := false, speedAbsent := false, mismatch := false,
    park := c.park.reset, mainFb := c.mainFb.reset, auxFb := c.auxFb.reset, mainShift := false, auxClutch := false,
    lamp := .off, lampHigh := false, flash := none }

end Sys2Proof.Machine
end

