-- ==== Sys2Proof/Machine/Signals.lean ====
section
/-! DEFINITION. The events that reach a signal slot in the whole part: the slot's change, the SIGNAL_LOST report and the
notification of the Drive Interlock Controller (R53 to R66). -/

namespace Sys2Proof.Machine

/-- The notifying roles bound to a slot in the Active role map (R66). -/
def RoleMap.rolesAt (m : RoleMap) (i : Fin 32) : List Role :=
  [Role.roadSpeed, .engineSpeed, .currentRange, .modeRequest].filter fun r => m.get r = some i

/-- The notifications at the end of an event of a slot (R66). -/
def notifyRoles (i : Fin 32) (value : Option Int) (s : State) : State :=
  (s.tables.active.roles.rolesAt i).foldl (fun s r => notify r value s) s

/-- A slot that takes an error event, with the SIGNAL_LOST report of an entry into LOST (R58 to R60). `reload` is the
freshness countdown's reload at its own expiry (R57). -/
def slotError (i : Fin 32) (reload : Bool) (s : State) : State :=
  let d := s.tables.active.sdt[i]
  let x := s.slots[i]
  let y := x.takeError d
  let t := s.setSlot i (if reload then { y with freshness := d.freshLoad } else y)
  if x.entersLost y then report .signalLost (some i.val) t else t

/-- An update event at a slot, whole (R53): graded, taken, and notified. A good update after which the slot is usable
carries its value (R66). -/
def updateEvent (i : Fin 32) (u : Update) (s : State) : State :=
  match s.tables.active.sdt[i].grade u with
  | none => notifyRoles i none (slotError i false s)
  | some eng =>
    let y := s.slots[i].takeGood s.tables.active.sdt[i] s.clock eng
    notifyRoles i (if y.usable.isSome then some eng else none) (s.setSlot i y)

/-- The expiry of a slot's freshness countdown (R57). -/
def freshnessEvent (i : Fin 32) (s : State) : State := notifyRoles i none (slotError i true s)

/-- The expiry of a slot's hold countdown (R63): the value becomes absent, the timestamp is kept. -/
def holdEvent (i : Fin 32) (s : State) : State :=
  notifyRoles i none (s.setSlot i { s.slots[i] with value := none, hold := .expired })

/-- Every slot reset under the Active bank (R70). -/
def resetSlots (s : State) : State :=
  { s with slots := Vector.ofFn fun i => s.tables.active.sdt[i].resetSlot }

end Sys2Proof.Machine
end

