-- ==== Sys2Proof/Machine/Classifier.lean ====
section
/-! DEFINITION. The Frame Classifier: matching, the search, extraction and the building of frame records (chapter 1). -/

namespace Sys2Proof.Machine

/-- A frame as the port delivers it (R4): a length code above 8 is 8, data has exactly length bytes, a remote frame has
none, and a STANDARD identifier has 11 bits (R10). -/
def deliver (f : Frame) : Frame :=
  let length := min f.length 8
  { f with
    length := length
    ident := match f.format with
      | .standard => f.ident &&& 0x7FF
      | .extended => f.ident
    data := match f.kind with
      | .data => padBytes length f.data
      | .remote => [] }

/-- The mode class of an apparatus state, by its code in R181: ROAD 0, TRANSITION 1, PUMP 2, ROLL 3, HOLD 4; UNLOADED
has none (R11). -/
def modeClass (app : AppState) : Option Nat :=
  match app with
  | .unloaded => none
  | .road => some 0
  | .mainEngaging => some 1
  | .auxEngaging => some 1
  | .disengaging => some 1
  | .pump => some 2
  | .roll => some 3
  | .faultHold => some 4

/-- The arrival ports of a port set (R8). -/
def PortSet.has : PortSet → Port → Bool
  | .chassis, .chassis => true
  | .chassis, .body => false
  | .body, .chassis => false
  | .body, .body => true
  | .both, _ => true

/-- The identifier test (R10): every bit the mask does not mark agrees with the base. -/
def identAgrees (base mask ident : Ident) : Bool := (ident ^^^ base) &&& ~~~mask == 0

/-- A frame matches an entry (R9). -/
def FctEntry.accepts (e : FctEntry) (p : Port) (cls : Nat) (format : Format) (kind : FrameKind) (ident : Ident) : Bool :=
  e.enabled && e.ports.has p && e.modes.getLsbD cls && format == e.format && kind == .data
  && identAgrees e.base e.mask ident

/-- The first enabled entry, in index order, that the frame matches (R12). -/
def Bank.search (b : Bank) (p : Port) (cls : Nat) (format : Format) (kind : FrameKind) (ident : Ident) :
    Option (Fin 48) :=
  (List.finRange 48).find? fun i => b.fct[i].accepts p cls format kind ident

/-- The default action of a port (R13). -/
def Header.defaultFor (h : Header) : Port → DefaultAction
  | .chassis => h.chassisDefault
  | .body => h.bodyDefault

/-- An action that runs the extractors (R16). -/
def Action.extracts : Action → Bool
  | .pass => true
  | .tap => true
  | .sink => true
  | .clamp => true
  | .rangeGuard => true
  | .block => false

/-- The entry forwards a frame of this length (R16, R17). -/
def FctEntry.forwards (e : FctEntry) (length : Nat) : Bool :=
  match e.action with
  | .pass => true
  | .tap => true
  | .block => false
  | .sink => false
  | .clamp => e.edit.fits length
  | .rangeGuard => e.edit.fits length

/-- A frame record, with attempt count 0 (R22). -/
def Frame.record (f : Frame) (action : RecAction) (latestOnly : Bool) (edit : Option Field) (scale : Option Nat) :
    FrameRecord :=
  ⟨f.ident, f.format, f.kind, f.length, f.data, action, latestOnly, edit, scale, 0⟩

/-- The record of a frame under its winning entry (R16, R22). -/
def FctEntry.recordOf (e : FctEntry) (f : Frame) : FrameRecord :=
  match e.action with
  | .clamp => Frame.record f .clamp e.latestOnly (some e.edit) (some e.fullScale)
  | .rangeGuard => Frame.record f .rangeGuard e.latestOnly (some e.edit) none
  | .tap => Frame.record f .tap e.latestOnly none none
  | .pass | .block | .sink => Frame.record f .pass e.latestOnly none none

/-- A hit counted, staying at 65535 (R18). -/
def countHit (i : Fin 48) (s : State) : State :=
  { s with tables := { s.tables with hits := s.tables.hits.set i (min 65535 (s.tables.hits[i] + 1)) } }

/-- What an extractor delivers from a frame (R19, R20). -/
def Extractor.update (x : Extractor) (f : Frame) : Update :=
  if x.field.fits f.length then .raw (readField x.field f.data) x.field.width else .shortFrame

/-- The extractors of a list run in order (R20). -/
def runExtractors (xs : List Extractor) (f : Frame) (s : State) : State :=
  xs.foldl (fun s x => updateEvent x.slot (x.update f) s) s

/-- The queue that takes the frames of an arrival port (R23). -/
def queueFrom (p : Port) : QueueId := queueToward (otherPort p)

/-- A delivered frame classified whole (R6, R7, R13). -/
def classify (p : Port) (f : Frame) (s : State) : State :=
  match modeClass s.ctl.app with
  | none => offer (queueFrom p) (Frame.record f .none false none none) s
  | some cls =>
    match s.tables.active.search p cls f.format f.kind f.ident with
    | none =>
      match s.tables.active.header.defaultFor p with
      | .pass => offer (queueFrom p) (Frame.record f .pass false none none) s
      | .block => s
    | some i =>
      let e := s.tables.active.fct[i]
      let s := countHit i s
      let s := if e.action.extracts then runExtractors e.extractors f s else s
      if e.forwards f.length then offer (queueFrom p) (e.recordOf f) s else s

end Sys2Proof.Machine
end

