-- ==== Sys2Proof/Machine/Tank.lean ====
section
/-! DEFINITION. The Tank Gauge Unit: the stages of an evaluation, the hold expiry and the level report (chapter 6). -/

namespace Sys2Proof.Machine

/-! ## Stages of an evaluation -/

/-- The sender levels of the usable senders, in mm, clamped to 0..H (R130). -/
def senderLevels (e : CompEntry) (slots : Vector Slot 32) : List Nat :=
  e.senderList.filterMap fun x =>
    (slots[x.slot].usable).map fun v => (clampInt 0 e.height (v + x.offset)).toNat

/-- The mean of the sender levels, rounded half up (R131). -/
def combineLevels (l : List Nat) : Nat := (l.sum + l.length / 2) / l.length

/-- The step of the slosh filter: d / 2^k truncated toward zero, at least 1 in size unless d is 0 (R134). -/
def filterStep (d : Int) (k : Nat) : Int :=
  let q := d.tdiv (2 ^ k)
  if d ≠ 0 ∧ q = 0 then (if 0 < d then 1 else -1) else q

/-- The filter state after a level of L mm (R134): seeded when absent. -/
def filterNext (f16 : Option Nat) (l k : Nat) : Nat :=
  match f16 with
  | none => 16 * l
  | some f => ((f : Int) + filterStep (16 * l - f) k).toNat

/-- The filter shift (R135). -/
def State.filterShift (s : State) (e : CompEntry) : Nat :=
  match s.present .roadSpeed with
  | some v => if (s.tables.active.params.stationary : Int) < v then e.kMoving else e.kStill
  | none => e.kStill

/-- The volume at a level, from the strap points in use (R136). -/
def strapVolume : List StrapPoint → Nat → Nat
  | [], _ => 0
  | [a], _ => a.v
  | a :: b :: rest, l =>
    if l ≤ a.h then a.v
    else if l < b.h then a.v + ((l - a.h) * (b.v - a.v) + (b.h - a.h) / 2) / (b.h - a.h)
    else strapVolume (b :: rest) l

/-- The last strap volume in use, v_(n−1). -/
def lastVolume (pts : List StrapPoint) : Nat := (pts.getLast?.getD ⟨0, 0⟩).v

/-- The band (R138). -/
def bandOf (e : CompEntry) (prev : Band) (v p : Nat) : Band :=
  if v ≤ e.emptyVolume then .empty
  else
    match prev with
    | .low | .empty => if p < e.lowThreshold + e.hysteresis then .low else .normal
    | .normal | .none => if p ≤ e.lowThreshold then .low else .normal

/-- The record after stages three to six on a combined level L (R134 to R138). -/
def CompRec.measure (x : CompRec) (e : CompEntry) (pts : List StrapPoint) (k l : Nat) : CompRec :=
  let f16 := filterNext x.f16 l k
  let lf := (f16 + 8) / 16
  let v := strapVolume pts lf
  let p := v * 1000 / lastVolume pts
  { x with validity := .valid, band := bandOf e x.band v p, f16 := some f16, lf := lf, v := v, p := p, hold := none }

/-- The record of a compartment that becomes UNKNOWN (R133). -/
def CompRec.forget (x : CompRec) : CompRec :=
  { x with validity := .unknown, band := .none, f16 := none, lf := 0, v := 0, p := 0, hold := none }

/-- A compartment record changed. -/
def State.setComp (s : State) (c : Fin 4) (x : CompRec) : State :=
  { s with tank := { s.tank with comps := s.tank.comps.set c x } }

/-! ## The level report -/

/-- The 16-bit compartment word: fill, validity code, band code (R182). -/
def CompRec.word (x : CompRec) : Nat := x.p % 1024 + 1024 * x.validity.code + 4096 * x.band.code

/-- The level report frame (R142, R182). -/
def State.levelFrame (s : State) : Frame :=
  { format := .extended, kind := .data, ident := 0x0C5AA1D0 + s.straps.node.setWidth 29, length := 8
    data := be16 s.tank.comps[0].word ++ be16 s.tank.comps[1].word ++ be16 s.tank.comps[2].word
      ++ be16 s.tank.comps[3].word }

/-- The load of the report timer from the header's level report period (R143). -/
def Header.reportLoad (h : Header) : Option Nat := if h.levelPeriod = 0 then none else some (h.levelPeriod * 100)

/-- The report timer loaded from the Active bank (R143). -/
def loadReportTimer (s : State) : State :=
  { s with tank := { s.tank with report := s.tables.active.header.reportLoad } }

/-- A level report formed and placed, with the report timer reloaded (R142, R143). -/
def levelReport (s : State) : State := loadReportTimer (placeLevel s.levelFrame s)

/-! ## Events -/

/-- The compartment becomes UNKNOWN and reports it (R133). -/
def becomeUnknown (c : Fin 4) (s : State) : State :=
  report .tankUnknown (some c.val) (s.setComp c (s.tank.comps[c]).forget)

/-- An evaluation without usable senders (R132). -/
def evaluateNoSender (c : Fin 4) (s : State) : State :=
  let x := s.tank.comps[c]
  let hold := s.tables.active.comps[c].holdTime
  match x.validity with
  | .valid =>
    if hold = 0 then becomeUnknown c s
    else s.setComp c { x with validity := .held, hold := some (hold * 100) }
  | .held | .unknown | .disabled => s

/-- The stages of an evaluation (R129 to R138), without the report of a change; a DISABLED compartment is not evaluated. -/
def evaluateStages (c : Fin 4) (s : State) : State :=
  let e := s.tables.active.comps[c]
  let x := s.tank.comps[c]
  if x.validity = .disabled then s
  else
    match senderLevels e s.slots with
    | [] => evaluateNoSender c s
    | l :: ls =>
      s.setComp c (x.measure e (s.tables.active.strapList c) (s.filterShift e) (combineLevels (l :: ls)))

/-- The band or the validity differs (R138, R143). -/
def CompRec.differs (x y : CompRec) : Bool := x.band ≠ y.band ∨ x.validity ≠ y.validity

/-- One evaluation of a compartment: a change of band or validity places a level report (R129, R138, R143). -/
def evaluateComp (c : Fin 4) (s : State) : State :=
  let t := evaluateStages c s
  if (s.tank.comps[c]).differs t.tank.comps[c] then levelReport t else t

/-- A compartment record after its reset (R128). -/
def resetComp (enabled : Bool) : CompRec :=
  if enabled then ⟨.unknown, .none, none, 0, 0, 0, none, some 100⟩
  else ⟨.disabled, .none, none, 0, 0, 0, none, none⟩

/-- Every compartment reset under the Active bank (R128). -/
def resetComps (s : State) : State :=
  { s with tank := { s.tank with comps := Vector.ofFn fun c => resetComp s.tables.active.comps[c].enabled } }

end Sys2Proof.Machine
end

