-- ==== Sys2Proof/Machine/Banks.lean ====
section
/-! DEFINITION. Table Memory's work on banks: the numbering of fields, reading and writing one field (R149 to R151, R183),
and validation (R154, R155, R127). -/

namespace Sys2Proof.Machine

/-! ## Fields by number (R183) -/

/-- What a field of a table takes (R150, R183). -/
inductive FieldSpec
  /-- a numeric field with its range -/
  | num (low high : Int)
  /-- the freshness interval: 0 or 10..10000 -/
  | freshness
  /-- an enumeration or set field with codes 0..n − 1 -/
  | enum (n : Nat)
  /-- a role binding: a slot 0..31, or 255 for UNBOUND -/
  | binding
  deriving DecidableEq, Repr

/-- A field of a record: what it takes, how it is read as a number, and how it is written. -/
structure FieldAccess (α : Type) where
  spec : FieldSpec
  get : α → Int
  set : Int → α → α

/-- A field of a part, seen as a field of the whole. -/
def FieldAccess.lift {α β : Type} (a : FieldAccess α) (get : β → α) (set : α → β → β) : FieldAccess β :=
  ⟨a.spec, fun b => a.get (get b), fun v b => set (a.set v (get b)) b⟩

/-- A yes/no value from its code. -/
def boolOf (v : Int) : Bool := v == 1

/-- A default action from its code (R183). -/
def defaultActionOf (v : Int) : DefaultAction := if v = 1 then .block else .pass

/-- A port set from its code (R183). -/
def portSetOf (v : Int) : PortSet := if v = 0 then .chassis else if v = 1 then .body else .both

/-- A format from its code (R183). -/
def formatOf (v : Int) : Format := if v = 1 then .extended else .standard

/-- A byte order from its code (R183). -/
def byteOrderOf (v : Int) : ByteOrder := if v = 1 then .highFirst else .lowFirst

/-- An FCT action from its code (R183). -/
def actionOf (v : Int) : Action :=
  if v = 0 then .pass else if v = 1 then .block else if v = 2 then .tap
  else if v = 3 then .sink else if v = 4 then .clamp else .rangeGuard

/-- A slot from its number. -/
def slotOf (v : Int) : Fin 32 := Fin.ofNat 32 v.toNat

/-- The code of a role binding (R183). -/
def bindingCode : Option (Fin 32) → Int
  | some i => i.val
  | none => 255

/-- A role binding from its code (R183). -/
def bindingOf (v : Int) : Option (Fin 32) := if v = 255 then none else some (slotOf v)

/-- Header fields (R183, table 0). -/
def headerField (f : Nat) : Option (FieldAccess Header) :=
  match f with
  | 0 => some ⟨.enum 2, fun h => h.chassisDefault.code, fun v h => { h with chassisDefault := defaultActionOf v }⟩
  | 1 => some ⟨.enum 2, fun h => h.bodyDefault.code, fun v h => { h with bodyDefault := defaultActionOf v }⟩
  | 2 => some ⟨.num 0 100, fun h => h.statusPeriod, fun v h => { h with statusPeriod := v.toNat }⟩
  | 3 => some ⟨.num 0 100, fun h => h.levelPeriod, fun v h => { h with levelPeriod := v.toNat }⟩
  | _ => none

/-- The four fields of an extractor (R183, table 1): slot, start bit, width, byte order. -/
def extractorField (f : Nat) : Option (FieldAccess Extractor) :=
  match f with
  | 0 => some ⟨.num 0 31, fun x => (x.slot.val : Int), fun v x => { x with slot := slotOf v }⟩
  | 1 => some ⟨.num 0 63, fun x => x.field.start, fun v x => { x with field := { x.field with start := v.toNat } }⟩
  | 2 => some ⟨.num 1 16, fun x => x.field.width, fun v x => { x with field := { x.field with width := v.toNat } }⟩
  | 3 => some ⟨.enum 2, fun x => x.field.order.code, fun v x => { x with field := { x.field with order := byteOrderOf v } }⟩
  | _ => none

/-- FCT fields (R183, table 1); the hit count, field 21, is no field of a bank. -/
def fctField (f : Nat) : Option (FieldAccess FctEntry) :=
  match f with
  | 0 => some ⟨.enum 2, fun e => bit e.enabled, fun v e => { e with enabled := boolOf v }⟩
  | 1 => some ⟨.enum 3, fun e => e.ports.code, fun v e => { e with ports := portSetOf v }⟩
  | 2 => some ⟨.enum 2, fun e => formatCode e.format, fun v e => { e with format := formatOf v }⟩
  | 3 => some ⟨.num 0 536870911, fun e => (e.base.toNat : Int), fun v e => { e with base := BitVec.ofNat 29 v.toNat }⟩
  | 4 => some ⟨.num 0 536870911, fun e => (e.mask.toNat : Int), fun v e => { e with mask := BitVec.ofNat 29 v.toNat }⟩
  | 5 => some ⟨.enum 32, fun e => (e.modes.toNat : Int), fun v e => { e with modes := BitVec.ofNat 5 v.toNat }⟩
  | 6 => some ⟨.enum 6, fun e => e.action.code, fun v e => { e with action := actionOf v }⟩
  | 7 => some ⟨.enum 2, fun e => bit e.latestOnly, fun v e => { e with latestOnly := boolOf v }⟩
  | 8 => some ⟨.num 0 63, fun e => e.edit.start, fun v e => { e with edit := { e.edit with start := v.toNat } }⟩
  | 9 => some ⟨.num 1 16, fun e => e.edit.width, fun v e => { e with edit := { e.edit with width := v.toNat } }⟩
  | 10 => some ⟨.enum 2, fun e => e.edit.order.code, fun v e => { e with edit := { e.edit with order := byteOrderOf v } }⟩
  | 11 => some ⟨.num 1 65535, fun e => e.fullScale, fun v e => { e with fullScale := v.toNat }⟩
  | 12 => some ⟨.num 0 2, fun e => e.extCount, fun v e => { e with extCount := v.toNat }⟩
  | n =>
    if 13 ≤ n ∧ n ≤ 16 then
      (extractorField (n - 13)).map fun a => a.lift FctEntry.ext0 fun x e => { e with ext0 := x }
    else if 17 ≤ n ∧ n ≤ 20 then
      (extractorField (n - 17)).map fun a => a.lift FctEntry.ext1 fun x e => { e with ext1 := x }
    else none

/-- SDT fields (R183, table 2). -/
def sdtField (f : Nat) : Option (FieldAccess SlotDef) :=
  match f with
  | 0 => some ⟨.num 0 65535, fun d => d.gain, fun v d => { d with gain := v.toNat }⟩
  | 1 => some ⟨.num (-32768) 32767, fun d => d.offset, fun v d => { d with offset := v }⟩
  | 2 => some ⟨.num (-32768) 32767, fun d => d.plausMin, fun v d => { d with plausMin := v }⟩
  | 3 => some ⟨.num (-32768) 32767, fun d => d.plausMax, fun v d => { d with plausMax := v }⟩
  | 4 => some ⟨.freshness, fun d => d.freshness, fun v d => { d with freshness := v.toNat }⟩
  | 5 => some ⟨.num 1 64, fun d => d.errorStep, fun v d => { d with errorStep := v.toNat }⟩
  | 6 => some ⟨.num 0 255, fun d => d.holdTime, fun v d => { d with holdTime := v.toNat }⟩
  | _ => none

/-- The binding of a role by the role's number (R183, table 3). -/
def roleField (index : Nat) : Option (FieldAccess RoleMap) :=
  match index with
  | 0 => some ⟨.binding, fun m => bindingCode m.roadSpeed, fun v m => { m with roadSpeed := bindingOf v }⟩
  | 1 => some ⟨.binding, fun m => bindingCode m.engineSpeed, fun v m => { m with engineSpeed := bindingOf v }⟩
  | 2 => some ⟨.binding, fun m => bindingCode m.currentRange, fun v m => { m with currentRange := bindingOf v }⟩
  | 3 => some ⟨.binding, fun m => bindingCode m.modeRequest, fun v m => { m with modeRequest := bindingOf v }⟩
  | 4 => some ⟨.binding, fun m => bindingCode m.intakePressure, fun v m => { m with intakePressure := bindingOf v }⟩
  | _ => none

/-- A code of the roll set by its place. -/
def rollCodeField (i : Fin 4) : FieldAccess Params :=
  ⟨.num 0 255, fun p => (p.rollCodes[i] : Int), fun v p => { p with rollCodes := p.rollCodes.set i v.toNat }⟩

/-- Interlock parameter fields (R183, table 4). -/
def paramField (f : Nat) : Option (FieldAccess Params) :=
  match f with
  | 0 => some ⟨.num 0 100, fun p => p.stationary, fun v p => { p with stationary := v.toNat }⟩
  | 1 => some ⟨.num 0 200, fun p => p.creepLimit, fun v p => { p with creepLimit := v.toNat }⟩
  | 2 => some ⟨.num 0 5000, fun p => p.creepTime, fun v p => { p with creepTime := v.toNat }⟩
  | 3 => some ⟨.num 300 2000, fun p => p.engageMax, fun v p => { p with engageMax := v.toNat }⟩
  | 4 => some ⟨.num 0 255, fun p => p.neutral, fun v p => { p with neutral := v.toNat }⟩
  | 5 => some ⟨.num 0 255, fun p => p.pumpRange, fun v p => { p with pumpRange := v.toNat }⟩
  | 6 => some ⟨.num 1 4, fun p => p.rollSize, fun v p => { p with rollSize := v.toNat }⟩
  | 7 => some (rollCodeField 0)
  | 8 => some (rollCodeField 1)
  | 9 => some (rollCodeField 2)
  | 10 => some (rollCodeField 3)
  | 11 => some ⟨.num 0 4095, fun p => p.tA, fun v p => { p with tA := v.toNat }⟩
  | 12 => some ⟨.num 0 4095, fun p => p.tB, fun v p => { p with tB := v.toNat }⟩
  | 13 => some ⟨.num 0 4095, fun p => p.tC, fun v p => { p with tC := v.toNat }⟩
  | 14 => some ⟨.num 0 4095, fun p => p.tD1, fun v p => { p with tD1 := v.toNat }⟩
  | 15 => some ⟨.num 0 1000, fun p => p.pumpMax, fun v p => { p with pumpMax := v.toNat }⟩
  | 16 => some ⟨.num 0 1000, fun p => p.rollMax, fun v p => { p with rollMax := v.toNat }⟩
  | 17 => some ⟨.num 0 300, fun p => p.rollSpeedLimit, fun v p => { p with rollSpeedLimit := v.toNat }⟩
  | 18 => some ⟨.num 0 1000, fun p => p.protCeiling, fun v p => { p with protCeiling := v.toNat }⟩
  | 19 => some ⟨.num (-100) 1000, fun p => p.intakeMin, fun v p => { p with intakeMin := v }⟩
  | 20 => some ⟨.num 0 1000, fun p => p.riseStep, fun v p => { p with riseStep := v.toNat }⟩
  | 21 => some ⟨.num 0 255, fun p => p.period, fun v p => { p with period := v.toNat }⟩
  | _ => none

/-- A data byte of the template by its number. -/
def templateByte (i : Fin 8) : FieldAccess Template :=
  ⟨.num 0 255, fun t => (t.data[i].toNat : Int), fun v t => { t with data := t.data.set i (BitVec.ofNat 8 v.toNat) }⟩

/-- Lockout template fields (R183, table 5). -/
def templateField (f : Nat) : Option (FieldAccess Template) :=
  match f with
  | 0 => some ⟨.num 0 536870911, fun t => (t.ident.toNat : Int), fun v t => { t with ident := BitVec.ofNat 29 v.toNat }⟩
  | 1 => some ⟨.enum 2, fun t => formatCode t.format, fun v t => { t with format := formatOf v }⟩
  | 2 => some ⟨.num 1 8, fun t => t.length, fun v t => { t with length := v.toNat }⟩
  | 3 => some (templateByte 0)
  | 4 => some (templateByte 1)
  | 5 => some (templateByte 2)
  | 6 => some (templateByte 3)
  | 7 => some (templateByte 4)
  | 8 => some (templateByte 5)
  | 9 => some (templateByte 6)
  | 10 => some (templateByte 7)
  | 11 => some ⟨.num 0 63, fun t => t.lockStart, fun v t => { t with lockStart := v.toNat }⟩
  | 12 => some ⟨.num 2 4, fun t => t.lockWidth, fun v t => { t with lockWidth := v.toNat }⟩
  | 13 => some ⟨.enum 2, fun t => t.lockOrder.code, fun v t => { t with lockOrder := byteOrderOf v }⟩
  | 14 => some ⟨.num 0 63, fun t => t.rangeStart, fun v t => { t with rangeStart := v.toNat }⟩
  | 15 => some ⟨.enum 2, fun t => t.rangeOrder.code, fun v t => { t with rangeOrder := byteOrderOf v }⟩
  | _ => none

/-- The slot of a sender by its place. -/
def senderSlotField (i : Fin 3) : FieldAccess CompEntry :=
  ⟨.num 0 31, fun c => (c.senders[i].slot.val : Int),
   fun v c => { c with senders := c.senders.set i { c.senders[i] with slot := slotOf v } }⟩

/-- The mount offset of a sender by its place. -/
def senderOffsetField (i : Fin 3) : FieldAccess CompEntry :=
  ⟨.num (-500) 500, fun c => c.senders[i].offset,
   fun v c => { c with senders := c.senders.set i { c.senders[i] with offset := v } }⟩

/-- Compartment table fields (R183, table 6). -/
def compField (f : Nat) : Option (FieldAccess CompEntry) :=
  match f with
  | 0 => some ⟨.enum 2, fun c => bit c.enabled, fun v c => { c with enabled := boolOf v }⟩
  | 1 => some ⟨.enum 2, fun c => bit c.feedsPump, fun v c => { c with feedsPump := boolOf v }⟩
  | 2 => some ⟨.num 100 3000, fun c => c.height, fun v c => { c with height := v.toNat }⟩
  | 3 => some ⟨.num 1 3, fun c => c.senderCount, fun v c => { c with senderCount := v.toNat }⟩
  | 4 => some (senderSlotField 0)
  | 5 => some (senderOffsetField 0)
  | 6 => some (senderSlotField 1)
  | 7 => some (senderOffsetField 1)
  | 8 => some (senderSlotField 2)
  | 9 => some (senderOffsetField 2)
  | 10 => some ⟨.num 2 16, fun c => c.strapCount, fun v c => { c with strapCount := v.toNat }⟩
  | 11 => some ⟨.num 0 7, fun c => c.kStill, fun v c => { c with kStill := v.toNat }⟩
  | 12 => some ⟨.num 0 7, fun c => c.kMoving, fun v c => { c with kMoving := v.toNat }⟩
  | 13 => some ⟨.num 0 1000, fun c => c.lowThreshold, fun v c => { c with lowThreshold := v.toNat }⟩
  | 14 => some ⟨.num 0 200, fun c => c.hysteresis, fun v c => { c with hysteresis := v.toNat }⟩
  | 15 => some ⟨.num 0 65535, fun c => c.emptyVolume, fun v c => { c with emptyVolume := v.toNat }⟩
  | 16 => some ⟨.num 0 600, fun c => c.holdTime, fun v c => { c with holdTime := v.toNat }⟩
  | _ => none

/-- Strap table fields (R183, table 7). -/
def strapField (f : Nat) : Option (FieldAccess StrapPoint) :=
  match f with
  | 0 => some ⟨.num 0 3000, fun p => p.h, fun v p => { p with h := v.toNat }⟩
  | 1 => some ⟨.num 0 65535, fun p => p.v, fun v p => { p with v := v.toNat }⟩
  | _ => none

/-- A field of a bank by table code, index and field number (R183); none where the index or the field number is beyond
the table. -/
def bankField (table index field : Nat) : Option (FieldAccess Bank) :=
  match table with
  | 0 => if index = 0 then (headerField field).map (·.lift Bank.header fun x b => { b with header := x }) else none
  | 1 =>
    if h : index < 48 then
      (fctField field).map (·.lift (fun b => b.fct[index]) fun x b => { b with fct := b.fct.set index x })
    else none
  | 2 =>
    if h : index < 32 then
      (sdtField field).map (·.lift (fun b => b.sdt[index]) fun x b => { b with sdt := b.sdt.set index x })
    else none
  | 3 => if field = 0 then (roleField index).map (·.lift Bank.roles fun x b => { b with roles := x }) else none
  | 4 => if index = 0 then (paramField field).map (·.lift Bank.params fun x b => { b with params := x }) else none
  | 5 => if index = 0 then (templateField field).map (·.lift Bank.template fun x b => { b with template := x }) else none
  | 6 =>
    if h : index < 4 then
      (compField field).map (·.lift (fun b => b.comps[index]) fun x b => { b with comps := b.comps.set index x })
    else none
  | 7 =>
    if h : index < 64 then
      (strapField field).map (·.lift (fun b => b.straps[index]) fun x b => { b with straps := b.straps.set index x })
    else none
  | _ => none

/-- The value a field takes for a written value, and whether it was clamped; none for a code that names no member
(R150). -/
def FieldSpec.settle (sp : FieldSpec) (v : Int) : Option (Int × Bool) :=
  match sp with
  | .num low high => some (clampInt low high v, decide (v < low ∨ high < v))
  | .freshness =>
    if v < 0 then some (0, true)
    else if v = 0 then some (0, false)
    else some (clampInt 10 10000 v, decide (v < 10 ∨ 10000 < v))
  | .enum n => if 0 ≤ v ∧ v < n then some (v, false) else none
  | .binding => if (0 ≤ v ∧ v ≤ 31) ∨ v = 255 then some (v, false) else none

/-- The value of one field of a bank; the FCT hit count is that of the Active bank, 0 for the Shadow bank (R18, R149).
None where the index or the field is beyond the table. -/
def TableMemory.readTable (m : TableMemory) (shadow : Bool) (table index field : Nat) : Option Int :=
  if table = 1 ∧ field = 21 then
    if h : index < 48 then some (if shadow then 0 else (m.hits[index] : Int)) else none
  else
    (bankField table index field).map fun a => a.get (if shadow then m.shadow else m.active)

/-! ## Validation (R154, R155) -/

/-- The check codes, numbered 1..12 in this order (R154). -/
inductive Check
  | fieldGeometry
  | unreachableEntry
  | fullScaleTooLarge
  | badSlot
  | roleUnbound
  | rangeCodes
  | rollSet
  | strapOrder
  | strapEmpty
  | senders
  | thresholds
  | templateGeometry
  deriving DecidableEq, Repr

/-- The check numbers (R154). -/
def Check.number : Check → Nat
  | .fieldGeometry => 1 | .unreachableEntry => 2 | .fullScaleTooLarge => 3 | .badSlot => 4
  | .roleUnbound => 5 | .rangeCodes => 6 | .rollSet => 7 | .strapOrder => 8
  | .strapEmpty => 9 | .senders => 10 | .thresholds => 11 | .templateGeometry => 12

/-- A failed check: its code, and the table and index reported (R154, R183). -/
structure Failure where
  check : Check
  table : Nat
  index : Nat
  deriving DecidableEq, Repr

/-- The first failure of a list of tests, in order. -/
def firstFailure : List (Option Failure) → Option Failure
  | [] => none
  | some f :: _ => some f
  | none :: rest => firstFailure rest

/-- A test that fails with a check, a table and an index. -/
def failWhen (bad : Bool) (c : Check) (table index : Nat) : Option Failure :=
  if bad then some ⟨c, table, index⟩ else none

/-- A STANDARD entry whose base requires one of bits 11..28 (R10). -/
def FctEntry.unreachable (e : FctEntry) : Bool :=
  e.format == .standard && !(e.base &&& ~~~e.mask &&& 0x1FFFF800 == 0)

/-- The edit field of a CLAMP or RANGE_GUARD entry breaks its constraints (R8, R155). -/
def FctEntry.badEdit (e : FctEntry) : Bool :=
  match e.action with
  | .clamp => !e.edit.geometryOk
  | .rangeGuard => !e.edit.geometryOk || e.edit.width != 8
  | .pass | .block | .tap | .sink => false

/-- The full scale of a CLAMP entry is not below 2^width − 1 (R155). -/
def FctEntry.badScale (e : FctEntry) : Bool := e.action == .clamp && decide (2 ^ e.edit.width - 1 ≤ e.fullScale)

/-- Step 1 of R155 for one entry. -/
def checkEntry (e : FctEntry) (i : Nat) : Option Failure :=
  firstFailure
    [failWhen e.unreachable .unreachableEntry 1 i, failWhen e.badEdit .fieldGeometry 1 i,
     failWhen e.badScale .fullScaleTooLarge 1 i,
     failWhen (e.extractors.any fun x => !x.field.geometryOk) .fieldGeometry 1 i]

/-- Step 2 of R155 for one slot. -/
def checkSlotDef (d : SlotDef) (i : Nat) : Option Failure :=
  failWhen (decide (d.plausMax < d.plausMin)) .thresholds 2 i

/-- The five bindings in the order of the roles (R65). -/
def RoleMap.list (m : RoleMap) : List (Option (Fin 32)) :=
  [m.roadSpeed, m.engineSpeed, m.currentRange, m.modeRequest, m.intakePressure]

/-- Step 3 of R155 for one role: unbound though required, then naming a slot of an earlier role. -/
def checkRole (m : RoleMap) (i : Nat) : Option Failure :=
  let here := m.list.getD i none
  firstFailure
    [failWhen (here.isNone && decide (i < 4)) .roleUnbound 3 i,
     failWhen (here.isSome && (m.list.take i).contains here) .badSlot 3 i]

/-- Step 4 of R155. -/
def checkParams (p : Params) : Option Failure :=
  firstFailure
    [failWhen (p.pumpRange == p.neutral) .rangeCodes 4 0, failWhen (!p.rollSet.contains p.neutral) .rollSet 4 0]

/-- Step 5 of R155 (R123): geometry, within the template length, and no shared data bit. -/
def checkTemplate (t : Template) : Option Failure :=
  failWhen
    (!t.lockField.geometryOk || !t.rangeField.geometryOk || !t.lockField.fits t.length || !t.rangeField.fits t.length
      || t.lockField.bits.any t.rangeField.bits.contains)
    .templateGeometry 5 0

/-- The first i in 1..n − 1 at which the levels do not rise or the volumes fall (R127 check 3); `i` is the index of the
list's second point. -/
def strapDisorder : List StrapPoint → Nat → Option Nat
  | a :: b :: rest, i => if b.h ≤ a.h ∨ b.v < a.v then some i else strapDisorder (b :: rest) (i + 1)
  | _, _ => none

/-- Checks 3 of R127 for one compartment's points in use. -/
def checkStrapOrder (height : Nat) (pts : List StrapPoint) (c : Nat) : Option Failure :=
  match strapDisorder pts 1 with
  | some i => some ⟨.strapOrder, 7, c * 16 + i⟩
  | none =>
    failWhen (decide (height < (pts.getLast?.getD ⟨0, 0⟩).h)) .strapOrder 7 (c * 16 + pts.length - 1)

/-- A list that names one slot twice. -/
def repeats : List (Fin 32) → Bool
  | [] => false
  | x :: rest => rest.contains x || repeats rest

/-- Step 6 of R155 for one compartment, in the order of R127; a compartment that is not enabled is not checked. -/
def checkComp (b : Bank) (c : Fin 4) : Option Failure :=
  let e := b.comps[c]
  let pts := b.strapList c
  if e.enabled then
    firstFailure
      [failWhen (repeats (e.senderList.map (·.slot))) .senders 6 c.val,
       failWhen (decide (1000 < e.lowThreshold + e.hysteresis)) .thresholds 6 c.val,
       checkStrapOrder e.height pts c.val,
       failWhen (lastVolume pts == 0) .strapEmpty 7 (c.val * 16 + pts.length - 1)]
  else none

/-- The validation of a bank: its first failure in the order of R155, or none. -/
def validate (b : Bank) : Option Failure :=
  firstFailure
    ((List.finRange 48).map (fun i => checkEntry b.fct[i] i.val)
      ++ (List.finRange 32).map (fun i => checkSlotDef b.sdt[i] i.val)
      ++ (List.range 5).map (checkRole b.roles)
      ++ [checkParams b.params, checkTemplate b.template]
      ++ (List.finRange 4).map (checkComp b))

end Sys2Proof.Machine
end

