-- ==== Sys2Proof/Machine/Resets.lean ====
section
/-! DEFINITION. The resets: what every reset starts, the power and pin reset, the soft reset, and the completion of a
power-up load (R50, R73, R107, R160 to R162, R171, R174). -/

namespace Sys2Proof.Machine

/-- The status interval of an apparatus state under a header, as the load of the status timer (R171). -/
def statusLoad (app : AppState) (h : Header) : Option Nat :=
  if app = .unloaded then some 1000
  else if h.statusPeriod = 0 then none
  else some (h.statusPeriod * 100)

/-- The status timer loaded with the interval in force (R171). -/
def loadStatusTimer (s : State) : State :=
  { s with engine := { s.engine with statusTimer := statusLoad s.ctl.app s.tables.active.header } }

/-- The Management Engine's starting record, before its status timer is loaded (R162). -/
def startEngine : Engine :=
  { bufX := none, bufY := none, lastFilled := .y, inService := none, restart := none, busyDropped := 0,
    statusTimer := none, nextPage := .a }

/-- The Ceiling and Lockout Unit's starting record (R107). -/
def startCeiling : CeilingUnit :=
  { e := 1000, timer := 100, protection := false, lastRange := 0, content := .notEmitting, reassert := none }

/-- The hit counts at 0 (R18). -/
def zeroHits (s : State) : State := { s with tables := { s.tables with hits := Vector.replicate 48 0 } }

/-- What every reset does, with the controller starting in `app`: ports, queues, places, clock, slots, compartments,
controller, ceiling unit, hit counts and engine take their starting state under the Active bank as it stands (R50, R68,
R70, R73, R107, R128, R143, R162, R171). -/
def startBlocks (app : AppState) (s : State) : State :=
  let s := { s with
    chassis := resetPort, body := resetPort, bc := resetQueue, cb := resetQueue, places := resetPlaces, clock := 0,
    ctl := s.ctl.start app, ceil := startCeiling, engine := startEngine }
  loadStatusTimer (loadReportTimer (resetComps (resetSlots (zeroHits s))))

/-- A power or pin reset (R160, R180): straps read, banks and fault record cleared, the marker read, every block
started; with the marker set a load begins, with it clear IMAGE_INVALID is reported. -/
def hardReset (straps : Straps) (s : State) : State :=
  let marker := s.tables.store.marker
  let s := { s with
    straps := straps
    faults := ⟨none, 0⟩
    tables := { s.tables with
      active := clearedBank, shadow := clearedBank, marker := marker, storing := false
      origin := if marker then .loading else .cleared } }
  let s := startBlocks .unloaded s
  if marker then s else report .imageInvalid none s

/-- The apparatus state a RESTART leaves (R73, R148, R161). -/
def TableOrigin.restartState : TableOrigin → AppState
  | .cleared => .unloaded
  | .loading => .unloaded
  | .loaded => .road
  | .activated => .road

/-- The soft reset of a RESTART (R174, R180): banks, store, straps and fault record kept, RESTARTED reported last. -/
def softReset (s : State) : State :=
  let s := { s with tables := { s.tables with storing := false } }
  report .restarted none (startBlocks s.tables.origin.restartState s)

/-- What the neighbours do when the Active bank has been replaced, in the order of R157: slots, compartments and a level
report, controller, status timer. -/
def tablesTaken (s : State) : State :=
  loadStatusTimer (onTablesTaken (levelReport (resetComps (resetSlots (zeroHits s)))))

end Sys2Proof.Machine
end

