-- ==== Sys2Proof/Machine/Requests.lean ====
section
/-! DEFINITION. The Management Engine: intake, service, the effect of each request kind and its response (chapter 8, and
the layouts of R181 and R182). -/

namespace Sys2Proof.Machine

/-! ## Responses (R166, R181) -/

/-- The status codes (R166). -/
inductive Status
  | ok
  | busy
  | badRequest
  | badIndex
  | badValue
  | refused
  | invalidTable
  | storeFailed
  deriving DecidableEq, Repr

/-- Codes of the statuses (R181). -/
def Status.code : Status → Nat
  | .ok => 0 | .busy => 1 | .badRequest => 2 | .badIndex => 3
  | .badValue => 4 | .refused => 5 | .invalidTable => 6 | .storeFailed => 7

/-- What a response says beside its echo: status, CLAMPED indication, result bytes. -/
structure Reply where
  status : Status
  clamped : Bool
  result : List Byte
  deriving DecidableEq, Repr

/-- OK with result bytes. -/
def Reply.ok (result : List Byte) : Reply := ⟨.ok, false, result⟩

/-- A status with no result. -/
def Reply.bare (st : Status) : Reply := ⟨st, false, []⟩

/-- REFUSED with reason MODE (R181). -/
def Reply.refusedMode : Reply := ⟨.refused, false, [0]⟩

/-- REFUSED with reason PORT_STATE (R181). -/
def Reply.refusedPort : Reply := ⟨.refused, false, [1]⟩

/-- The kind code of a request frame, 0 where it is too short to hold one (R164, R181). -/
def kindCode (f : Frame) : Nat := (dataByte f.data 0).toNat % 16

/-- The request tag of a request frame, 0 where it is too short to hold one (R164, R181). -/
def requestTag (f : Frame) : Byte := dataByte f.data 1

/-- The identifier of a frame of the part for the node address (00 section 3.8). -/
def State.nodeIdent (s : State) (base : Ident) : Ident := base + s.straps.node.setWidth 29

/-- The response frame to a request (R166, R181). -/
def State.responseFrame (s : State) (request : Frame) (r : Reply) : Frame :=
  { format := .extended, kind := .data, ident := s.nodeIdent 0x0C5AA180, length := 8
    data := BitVec.ofNat 8 (kindCode request + 16 * r.status.code + 128 * bit r.clamped) :: requestTag request ::
      padBytes 6 r.result }

/-! ## Status pages (R172, R182) -/

/-- The body of a status page, page bytes 1..6 (R182). -/
def State.pageBody (s : State) (p : Page) : List Byte :=
  match p with
  | .a =>
    [BitVec.ofNat 8 (s.ctl.app.code + 8 * s.ctl.phase.code + 64 * originCode s.ctl.origin),
     BitVec.ofNat 8 (disCauseCode s.ctl.cause + 32 * s.ctl.lamp.code + 128 * bit s.ctl.mainShift)]
    ++ be16 (s.ceil.e % 1024 + 1024 * bit s.ctl.auxClutch + 2048 * bit s.ctl.park.active
        + 4096 * bit s.ctl.mainFb.active + 8192 * bit s.ctl.auxFb.active)
    ++ be16 s.clock.toNat
  | .b =>
    [BitVec.ofNat 8 (s.chassis.st.code + 4 * s.body.st.code + 16 * s.tables.origin.code + 64 * bit s.tables.marker
        + 128 * bit s.tables.storing),
     s.faults.flags.setWidth 8, (s.faults.flags >>> 8).setWidth 8, (s.faults.flags >>> 16).setWidth 8]
    ++ be16 s.clock.toNat

/-- Codes of the pages (R181). -/
def Page.code : Page → Nat
  | .a => 0
  | .b => 1

/-- The other page (R171). -/
def Page.other : Page → Page
  | .a => .b
  | .b => .a

/-- A status broadcast frame (R182). -/
def State.statusFrame (s : State) (p : Page) : Frame :=
  { format := .extended, kind := .data, ident := s.nodeIdent 0x0C5AA1C0, length := 8
    data := BitVec.ofNat 8 p.code :: s.pageBody p ++ [0] }

/-! ## Requests that only read -/

/-- QUERY_STATUS (R172). -/
def serveQueryStatus (d : List Byte) (s : State) : Reply :=
  match (dataByte d 2).toNat with
  | 0 => .ok (s.pageBody .a)
  | 1 => .ok (s.pageBody .b)
  | _ => .bare .badValue

/-- READ_SIGNAL (R72). -/
def serveReadSignal (d : List Byte) (s : State) : Reply :=
  if h : (dataByte d 2).toNat < 32 then
    let x := s.slots[(dataByte d 2).toNat]
    .ok
      (be16 (signed16 (x.value.getD 0))
        ++ [BitVec.ofNat 8 (x.status.code + 16 * bit x.value.isSome + 32 * bit x.stamp.isSome), BitVec.ofNat 8 x.hc]
        ++ be16 (x.stamp.getD 0).toNat)
  else .bare .badIndex

/-- READ_COMPARTMENT (R145). -/
def serveReadCompartment (d : List Byte) (s : State) : Reply :=
  if h : (dataByte d 2).toNat < 4 then
    let x := s.tank.comps[(dataByte d 2).toNat]
    .ok (be16 x.word ++ be16 x.lf ++ be16 x.v)
  else .bare .badIndex

/-- READ_TABLE (R149, R181): a bad index or field before a bad bank code. -/
def serveReadTable (d : List Byte) (s : State) : Reply :=
  let b := (dataByte d 2).toNat
  let bank := (dataByte d 4).toNat
  match s.tables.readTable (bank == 1) (b / 32) (dataByte d 3).toNat (b % 32) with
  | none => .bare .badIndex
  | some v => if bank ≤ 1 then .ok (be32 (BitVec.ofInt 32 v)) else .bare .badValue

/-- PROBE (R153, R181): bank in bit 7 of byte 2, port in bit 6, format in bit 5, mode class in bits 0..2. -/
def serveProbe (d : List Byte) (s : State) : Reply :=
  let b := dataByte d 2
  let cls := b.toNat % 8
  let port : Port := if b.getLsbD 6 then .body else .chassis
  let format : Format := if b.getLsbD 5 then .extended else .standard
  let ident := (word32At d 3).toNat
  let limit := match format with
    | .standard => 2047
    | .extended => 536870911
  if 5 ≤ cls ∨ limit < ident then .bare .badValue
  else
    let bank := if b.getLsbD 7 then s.tables.shadow else s.tables.active
    match bank.search port cls format .data (BitVec.ofNat 29 ident) with
    | some i => .ok [BitVec.ofNat 8 i.val, BitVec.ofNat 8 bank.fct[i].action.code]
    | none => .ok [255, BitVec.ofNat 8 (bank.header.defaultFor port).code]

/-- The counters of a port in the order of R48. -/
def PortRec.counters (r : PortRec) : List Count :=
  [r.arrivals, r.mgmtArrivals, r.localTransmitted, r.forwardedTransmitted, r.failedAttempts, r.localAbandoned,
   r.busFaults]

/-- The counters of a queue in the order of R49. -/
def Queue.counters (u : Queue) : List Count :=
  [u.entered, u.transmitted, u.superseded, u.droppedFull, u.droppedStopped, u.abandoned, u.flushed]

/-- The readable counters of a group by its code; HIT_COUNTS has none (R170). -/
def State.groupCounters (s : State) (group : Nat) : Option (List Count) :=
  match group with
  | 0 => some s.chassis.counters
  | 1 => some s.body.counters
  | 2 => some s.bc.counters
  | 3 => some s.cb.counters
  | 4 => some []
  | 5 => some [s.engine.busyDropped]
  | _ => none

/-- READ_COUNTER (R170). -/
def serveReadCounter (d : List Byte) (s : State) : Reply :=
  match s.groupCounters (dataByte d 2).toNat with
  | none => .bare .badValue
  | some l =>
    match l[(dataByte d 3).toNat]? with
    | none => .bare .badIndex
    | some n => .ok (be32 n)

/-- READ_FAULT (R179, R181). An index that the record does not hold is carried as 0 (notes/assumptions/8.md). -/
def serveReadFault (s : State) : Reply :=
  match s.faults.record with
  | none => .ok []
  | some c =>
    .ok
      ([BitVec.ofNat 8 c.cause.code,
        BitVec.ofNat 8 (c.severity.code + 4 * c.app.code + 32 * bit c.index.isSome),
        BitVec.ofNat 8 (c.index.getD 0)]
        ++ be16 c.clock.toNat ++ [BitVec.ofNat 8 c.suppressed])

/-! ## Requests that change the tables, counters and fault record -/

/-- WRITE_TABLE (R150): a bad index or field, then a bad code, then the value as it fits. -/
def serveWriteTable (d : List Byte) (s : State) : State × Reply :=
  let b := (dataByte d 2).toNat
  match bankField (b / 32) (dataByte d 3).toNat (b % 32) with
  | none => (s, .bare .badIndex)
  | some a =>
    match a.spec.settle (word32At d 4).toInt with
    | none => (s, .bare .badValue)
    | some (v, clamped) =>
      ({ s with tables := { s.tables with shadow := a.set v s.tables.shadow } },
       ⟨.ok, clamped, be32 (BitVec.ofInt 32 v)⟩)

/-- COPY_ACTIVE_TO_SHADOW (R152). -/
def serveCopy (s : State) : State × Reply :=
  ({ s with tables := { s.tables with shadow := s.tables.active } }, .ok [])

/-- The counters of a port at 0. -/
def PortRec.clearCounters (r : PortRec) : PortRec :=
  { r with
    arrivals := 0, mgmtArrivals := 0, localTransmitted := 0, forwardedTransmitted := 0, failedAttempts := 0,
    localAbandoned := 0, busFaults := 0 }

/-- The counters of a queue at 0. -/
def Queue.clearCounters (u : Queue) : Queue :=
  { u with
    entered := 0, transmitted := 0, superseded := 0, droppedFull := 0, droppedStopped := 0, abandoned := 0,
    flushed := 0 }

/-- CLEAR_COUNTERS (R170). -/
def serveClearCounters (d : List Byte) (s : State) : State × Reply :=
  match (dataByte d 2).toNat with
  | 0 => ({ s with chassis := s.chassis.clearCounters }, .ok [])
  | 1 => ({ s with body := s.body.clearCounters }, .ok [])
  | 2 => ({ s with bc := s.bc.clearCounters }, .ok [])
  | 3 => ({ s with cb := s.cb.clearCounters }, .ok [])
  | 4 => (zeroHits s, .ok [])
  | 5 => ({ s with engine := { s.engine with busyDropped := 0 } }, .ok [])
  | _ => (s, .bare .badValue)

/-- CLEAR_FAULT (R179): the record is emptied, the flags stay. -/
def serveClearFault (s : State) : State × Reply := ({ s with faults := { s.faults with record := none } }, .ok [])

/-- The CLEAR_FLAGS mask, positions as the flags of page B (R181, R182). -/
def flagMask (d : List Byte) : BitVec 24 :=
  BitVec.ofNat 24
    ((dataByte d 2).toNat + 256 * (dataByte d 3).toNat + 65536 * (dataByte d 4).toNat)

/-- CLEAR_FLAGS (R178). -/
def serveClearFlags (d : List Byte) (s : State) : State × Reply :=
  ({ s with faults := { s.faults with flags := s.faults.flags &&& ~~~flagMask d } }, .ok [])

/-! ## PORT_CONTROL (R44 to R46) -/

/-- QUIESCE and CUT of the Chassis Port are refused outside ROAD and UNLOADED (R44, R45). -/
def State.stopRefused (s : State) (p : Port) : Bool :=
  p == .chassis && !(s.ctl.app == .road || s.ctl.app == .unloaded)

/-- QUIESCE of a port (R41, R44). -/
def serveQuiesce (p : Port) (s : State) : State × Reply :=
  if s.stopRefused p then (s, .refusedMode)
  else
    let r := s.port p
    match r.st with
    | .active => (settleDrained p (s.setPort p { r with st := .quiescing }), .ok [])
    | .quiescing => (s, .ok [])
    | .stopped => (s, .ok [])
    | .busFault =>
      (s.setPort p { r with quiescePending := true, ret := if r.ret = .active then .quiescing else r.ret }, .ok [])

/-- The attempts that a CUT breaks off: all but those of RESPONSE and BUSY frames (R45). -/
def Source.brokenByCut : Source → Bool
  | .lockout => true
  | .status => true
  | .level => true
  | .output => true
  | .response _ => false
  | .busy => false

/-- A queue flushed: every record discarded and counted (R45). -/
def Queue.flush (u : Queue) : Queue :=
  { u with body := [], out := none, flushed := u.flushed + BitVec.ofNat 32 u.held }

/-- The places of a port emptied by a CUT; RESPONSE and BUSY are kept (R45). -/
def Places.cut (pl : Places) (p : Port) : Places :=
  match p with
  | .chassis => { pl with lockout := emptyPlace }
  | .body => { pl with status := emptyPlace, level := emptyPlace }

/-- The stop that a CUT makes, whatever the port state (R45). -/
def cutPort (p : Port) (s : State) : State :=
  let r := s.port p
  let attempt := match r.attempt with
    | some a => if a.source.brokenByCut then none else some a
    | none => none
  let s := s.setPort p
    { r with st := .stopped, recovery := none, quiescePending := false, run := 0, attempt := attempt }
  let s := s.setQueue (queueToward p) (s.queue (queueToward p)).flush
  { s with places := s.places.cut p }

/-- CUT of a port (R45). -/
def serveCut (p : Port) (s : State) : State × Reply :=
  if s.stopRefused p then (s, .refusedMode) else (cutPort p s, .ok [])

/-- RESUME of a port (R46). -/
def serveResume (p : Port) (s : State) : State × Reply :=
  let r := s.port p
  match r.st with
  | .active => (s, .ok [])
  | .quiescing => (s.setPort p { r with st := .active }, .ok [])
  | .stopped => (s.setPort p { r with st := .active }, .ok [])
  | .busFault => (s, .refusedPort)

/-- The port a code names (R181). -/
def portOf (code : Nat) : Option Port :=
  match code with
  | 0 => some .chassis
  | 1 => some .body
  | _ => none

/-- PORT_CONTROL (R181): a bad port code, then a bad control code, then the control. -/
def servePortControl (d : List Byte) (s : State) : State × Reply :=
  match portOf (dataByte d 2).toNat with
  | none => (s, .bare .badValue)
  | some p =>
    match (dataByte d 3).toNat with
    | 0 => serveQuiesce p s
    | 1 => serveCut p s
    | 2 => serveResume p s
    | _ => (s, .bare .badValue)

/-! ## RESTART and ACTIVATE -/

/-- RESTART (R173): taken in UNLOADED, ROAD and FAULT_HOLD, the OK response going to the claimed place. -/
def serveRestart (place : RespPlace) (s : State) : State × Reply :=
  match s.ctl.app with
  | .unloaded | .road | .faultHold => ({ s with engine := { s.engine with restart := some ⟨50, place⟩ } }, .ok [])
  | .mainEngaging | .pump | .auxEngaging | .roll | .disengaging => (s, .refusedMode)

/-- ACTIVATE at its service (R156): answered at once, or none where a validation begins. The report of a refusal by mode is
taken before the next service of the event (DESIGN CHOICE: notes/assumptions/27.md). -/
def serveActivate (request : Frame) (place : RespPlace) (s : State) : State × Option Reply :=
  if 1 < (dataByte request.data 2).toNat then (s, some (.bare .badValue))
  else if s.ctl.app = .road ∨ s.ctl.app = .unloaded then
    ({ s with engine := { s.engine with inService := some ⟨request, place, .validating⟩ } }, none)
  else (report .activationRefused (some 0) s, some .refusedMode)

/-! ## Service (R165 to R169) -/

/-- The required length of each kind by its code; no other code names a kind (R181). -/
def kindLength (code : Nat) : Option Nat :=
  match code with
  | 1 | 2 | 3 | 7 | 11 => some 3
  | 4 | 14 => some 5
  | 5 => some 8
  | 6 | 12 | 13 | 15 => some 2
  | 8 => some 7
  | 9 | 10 => some 4
  | _ => none

/-- The request is answered BAD_REQUEST (R166). -/
def badFrame (f : Frame) : Bool :=
  f.kind == .remote
  || (match kindLength (kindCode f) with
      | none => true
      | some n => decide (f.length < n))

/-- The service of a request that is not bad, by its kind code (R167): none where its response comes later. -/
def serveKind (f : Frame) (place : RespPlace) (s : State) : State × Option Reply :=
  let plain (r : State × Reply) : State × Option Reply := (r.1, some r.2)
  match kindCode f with
  | 1 => (s, some (serveQueryStatus f.data s))
  | 2 => (s, some (serveReadSignal f.data s))
  | 3 => (s, some (serveReadCompartment f.data s))
  | 4 => (s, some (serveReadTable f.data s))
  | 5 => plain (serveWriteTable f.data s)
  | 6 => plain (serveCopy s)
  | 7 => serveActivate f place s
  | 8 => (s, some (serveProbe f.data s))
  | 9 => plain (servePortControl f.data s)
  | 10 => (s, some (serveReadCounter f.data s))
  | 11 => plain (serveClearCounters f.data s)
  | 12 => (s, some (serveReadFault s))
  | 13 => plain (serveClearFault s)
  | 14 => plain (serveClearFlags f.data s)
  | 15 => plain (serveRestart place s)
  | _ => (s, some (.bare .badRequest))

/-- A request answered in its claimed place (R166, R169). -/
def respond (request : Frame) (place : RespPlace) (r : Reply) (s : State) : State :=
  placeResponse place (s.responseFrame request r) s

/-- A request served, its response placed unless it comes later (R165 to R168). -/
def serveRequest (f : Frame) (place : RespPlace) (s : State) : State :=
  if badFrame f then respond f place (.bare .badRequest) s
  else
    match serveKind f place s with
    | (t, some r) => respond f place r t
    | (t, none) => t

/-- The older of the buffered requests and its buffer (R163, R165). -/
def Engine.oldest (g : Engine) : Option (Buffer × Frame) :=
  match g.bufX, g.bufY with
  | none, none => none
  | some f, none => some (.x, f)
  | none, some f => some (.y, f)
  | some f, some h => if g.lastFilled = .y then some (.x, f) else some (.y, h)

/-- A buffer changed. -/
def Engine.setBuf (g : Engine) (b : Buffer) (f : Option Frame) : Engine :=
  match b with
  | .x => { g with bufX := f }
  | .y => { g with bufY := f }

/-- A free RESPONSE place, the first when both are (R165); asked only when no service holds a claim. -/
def Places.freeResp (pl : Places) : Option RespPlace :=
  if pl.resp1.isNone then some .first else if pl.resp2.isNone then some .second else none

/-- Service may begin, apart from a request and a place (R165). -/
def State.mayServe (s : State) : Bool :=
  s.engine.inService.isNone && s.tables.origin != .loading && s.engine.restart.isNone

/-- The next service, where all the conditions of R165 hold. -/
def serveNext (s : State) : State :=
  match s.engine.oldest, s.places.freeResp with
  | some (b, f), some place =>
    if s.mayServe then serveRequest f place { s with engine := s.engine.setBuf b none } else s
  | _, _ => s

/-- The services an event lets begin, one after another: two buffers hold at most two requests (R165). -/
def serveWaiting (s : State) : State := serveNext (serveNext s)

/-! ## Intake (R162 to R164) -/

/-- The BUSY responder (R164). -/
def busyResponder (f : Frame) (s : State) : State :=
  if s.places.busy.isSome then
    { s with engine := { s.engine with busyDropped := s.engine.busyDropped + 1 } }
  else { s with places := { s.places with busy := some (newLocal (s.responseFrame f (.bare .busy))) } }

/-- The buffer a request enters: the one not last filled when it is empty, else the other when that is (R163). -/
def Engine.fillTarget (g : Engine) : Option Buffer :=
  match g.lastFilled with
  | .x => if g.bufY.isNone then some .y else if g.bufX.isNone then some .x else none
  | .y => if g.bufX.isNone then some .x else if g.bufY.isNone then some .y else none

/-- A management arrival taken into the intake, and the services it lets begin (R163, R165). -/
def intake (f : Frame) (s : State) : State :=
  match s.engine.fillTarget with
  | some b => serveWaiting { s with engine := { s.engine.setBuf b (some f) with lastFilled := b } }
  | none => busyResponder f s

/-! ## Arrival (R4, R5, R43) -/

/-- The frame is diverted to the Management Engine (R5). -/
def State.diverts (s : State) (p : Port) (f : Frame) : Bool :=
  p == .body && f.format == .extended && f.ident == s.nodeIdent 0x0C5AA100

/-- The port reports the arrival (R4, R41, R43). -/
def PortRec.reports (r : PortRec) (p : Port) (diverted : Bool) : Bool :=
  match r.st with
  | .active => true
  | .quiescing => true
  | .stopped => p == .body && diverted
  | .busFault => false

/-- The arrival of a delivered frame: counted, and diverted or classified (R5, R6, R40, R48). -/
def arrive (p : Port) (f : Frame) (s : State) : State :=
  let r := s.port p
  let diverted := s.diverts p f
  if r.reports p diverted then
    if diverted then
      intake f (s.setPort p { r with run := 0, arrivals := r.arrivals + 1, mgmtArrivals := r.mgmtArrivals + 1 })
    else classify p f (s.setPort p { r with run := 0, arrivals := r.arrivals + 1 })
  else s

/-- The request frame of this part with given data, as it arrives. -/
def State.requestFrame (s : State) (data : List Byte) : Frame :=
  ⟨.extended, .data, s.nodeIdent 0x0C5AA100, data.length, data⟩

/-- The arrival of a request frame with given data at the Body Port (notes/assumptions/3.md). -/
def requestArrival (data : List Byte) (s : State) : State := arrive .body (deliver (s.requestFrame data)) s

end Sys2Proof.Machine
end

