-- ==== Sys2Proof/Machine/Transmit.lean ====
section
/-! DEFINITION. The Port Transmitters: the arbiter, the start and the ends of an attempt, and the recovery from
BUS_FAULT (chapter 2). -/

namespace Sys2Proof.Machine

/-! ## The arbiter (R38) -/

/-- The RESPONSE place the arbiter offers: the one placed earlier (R38, R169). -/
def Places.responseTurn (pl : Places) : Option Source :=
  match pl.resp1, pl.resp2 with
  | none, none => none
  | some _, none => some (.response .first)
  | none, some _ => some (.response .second)
  | some _, some _ => some (.response pl.respOlder)

/-- The first RESPONSE or BUSY frame in the Body Port's order (R38). -/
def Places.answerTurn (pl : Places) : Option Source :=
  match pl.responseTurn with
  | some src => some src
  | none => if pl.busy.isSome then some .busy else none

/-- The source the arbiter takes, of those eligible in the port's state (R38). -/
def State.pick (s : State) (p : Port) : Option Source :=
  match p, (s.port p).st with
  | _, .busFault => none
  | .chassis, .stopped => none
  | .body, .stopped => s.places.answerTurn
  | .chassis, _ =>
    if s.places.lockout.cur.isSome then some .lockout
    else if s.bc.out.isSome then some .output else none
  | .body, _ =>
    match s.places.answerTurn with
    | some src => some src
    | none =>
      if s.places.status.cur.isSome then some .status
      else if s.places.level.cur.isSome then some .level
      else if s.cb.out.isSome then some .output else none

/-- The start of an attempt (R31, R32): nothing where an attempt is in progress or no frame is eligible. -/
def startAttempt (p : Port) (s : State) : State :=
  if (s.port p).attempt.isSome then s
  else
    match s.pick p with
    | none => s
    | some .output =>
      match (s.queue (queueToward p)).out with
      | none => s
      | some r =>
        let t := rewriteEffect r s
        t.setPort p { t.port p with attempt := some ⟨.output, r.frame (s.outgoing r)⟩ }
    | some src =>
      match s.places.at src with
      | none => s
      | some f => s.setPort p { s.port p with attempt := some ⟨src, f.frame⟩ }

/-! ## The ends of an attempt (R33 to R37) -/

/-- The originating block is told of a local success (R33, R86, R165, R174). -/
def tellSuccess (src : Source) (stale : Bool) (s : State) : State :=
  match src with
  | .lockout => onLockoutSuccess stale s
  | .response pl =>
    match s.engine.restart with
    | some pending => if pending.place = pl then softReset s else serveWaiting s
    | none => serveWaiting s
  | .busy => s
  | .status => s
  | .level => s
  | .output => s

/-- The success of a local frame: it leaves its place, and a waiting replacement takes it (R33, R37). -/
def localSuccess (p : Port) (src : Source) (s : State) : State :=
  let stale := match s.places.at src with
    | some f => f.stale
    | none => false
  let r := s.port p
  let s := s.setPort p { r with localTransmitted := r.localTransmitted + 1 }
  let s := { s with places := (s.places.setAt src none).endAttempt src r.refusesFrames }
  tellSuccess src stale (settleDrained p s)

/-- The success of an output-stage record (R33). -/
def recordSuccess (p : Port) (s : State) : State :=
  let r := s.port p
  let u := s.queue (queueToward p)
  let s := s.setPort p { r with forwardedTransmitted := r.forwardedTransmitted + 1 }
  settleDrained p (s.setQueue (queueToward p) { u with out := none, transmitted := u.transmitted + 1 })

/-- The success of the attempt in progress (R33). -/
def endInSuccess (p : Port) (s : State) : State :=
  let r := s.port p
  match r.attempt with
  | none => s
  | some a =>
    let s := s.setPort p { r with attempt := none, run := 0 }
    match a.source with
    | .output => recordSuccess p s
    | src => localSuccess p src s

/-- The failure of an output-stage record: its count rises, and at 8 it is abandoned (R34). -/
def recordFailure (p : Port) (s : State) : State :=
  let q := queueToward p
  let u := s.queue q
  match u.out with
  | none => s
  | some r =>
    if r.attempts + 1 < 8 then s.setQueue q { u with out := some { r with attempts := r.attempts + 1 } }
    else
      report .transmitAbandoned (some (queueIndex q))
        (s.setQueue q { u with out := none, abandoned := u.abandoned + 1 })

/-- The failure of a local frame: its count rises, at 8 it is abandoned, and a waiting replacement takes the place
whatever the count (R34, R37). -/
def localFailure (p : Port) (src : Source) (s : State) : State :=
  match s.places.at src with
  | none => s
  | some f =>
    let refused := (s.port p).refusesFrames
    if f.attempts + 1 < 8 then
      { s with places := (s.places.setAt src (some { f with attempts := f.attempts + 1 })).endAttempt src refused }
    else
      let r := s.port p
      let s := s.setPort p { r with localAbandoned := r.localAbandoned + 1 }
      report .transmitAbandoned (some (src.index p))
        { s with places := (s.places.setAt src none).endAttempt src refused }

/-- The entry into BUS_FAULT when the run counter has reached 32 (R40). -/
def checkBusFault (p : Port) (s : State) : State :=
  let r := s.port p
  if 32 ≤ r.run ∧ r.st ≠ .busFault then
    report .portBusFault (some (portIndex p))
      (s.setPort p
        { r with
          st := .busFault, recovery := some 1000, ret := r.st, quiescePending := decide (r.st ≠ .active)
          busFaults := r.busFaults + 1 })
  else s

/-- A freed RESPONSE place is tested for a waiting service (R165, R169). -/
def serveIfFreed (src : Source) (s : State) : State :=
  match src with
  | .response pl => if (s.places.resp pl).isNone then serveWaiting s else s
  | .lockout | .busy | .status | .level | .output => s

/-- The failure of the attempt in progress (R34, R40); the frame's own effects come first (notes/assumptions/6.md). The
manual gives no order for the next three: the model takes the entry into BUS_FAULT, then the test for drained
(notes/assumptions/28.md), then the service that a freed RESPONSE place lets begin (DESIGN CHOICE: notes/assumptions/25.md).
That service also comes after every report of the failure (DESIGN CHOICE: notes/assumptions/27.md). -/
def endInFailure (p : Port) (s : State) : State :=
  let r := s.port p
  match r.attempt with
  | none => s
  | some a =>
    let s := s.setPort p { r with attempt := none, run := r.run + 1, failedAttempts := r.failedAttempts + 1 }
    let s := match a.source with
      | .output => recordFailure p s
      | src => localFailure p src s
    serveIfFreed a.source (settleDrained p (checkBusFault p s))

/-- The arbitration loss of the attempt in progress (R35, R37). -/
def endInLoss (p : Port) (s : State) : State :=
  let r := s.port p
  match r.attempt with
  | none => s
  | some a =>
    let s := s.setPort p { r with attempt := none }
    { s with places := s.places.endAttempt a.source r.refusesFrames }

/-- The recovery from BUS_FAULT (R41). -/
def recover (p : Port) (s : State) : State :=
  let r := s.port p
  settleDrained p
    (s.setPort p { r with st := r.ret, run := 0, recovery := none, quiescePending := false })

end Sys2Proof.Machine
end

