-- ==== Sys2Proof/Machine/Activation.lean ====
section
/-! DEFINITION. Activation, the Image Store and the power-up load, from the completion of a validation on (R157 to R160). -/

namespace Sys2Proof.Machine

/-- The request in service is answered in its claimed place and leaves service; a waiting service may begin (R165,
R168). -/
def finishService (v : Service) (r : Reply) (s : State) : State :=
  serveWaiting (respond v.request v.place r { s with engine := { s.engine with inService := none } })

/-- The copy of the Shadow bank into the Active bank with its effects on the neighbours (R157). -/
def activationCopy (s : State) : State :=
  tablesTaken { s with tables := { s.tables with active := s.tables.shadow, origin := .activated } }

/-- The start of a store (R159): the marker is cleared, and what the image holds is open until the store has ended
well. -/
def beginStore (v : Service) (s : State) : State :=
  { s with
    tables := { s.tables with storing := true, marker := false, store := ⟨Config.partialImage s.freeNext, false⟩ }
    freeNext := s.freeNext + 1
    engine := { s.engine with inService := some { v with stage := .storing } } }

/-- The store flag of an ACTIVATE (R181). -/
def Service.storeFlag (v : Service) : Bool := dataByte v.request.data 2 == 1

/-- The result bytes of INVALID_TABLE: table, index, check number (R181). -/
def Failure.reply (f : Failure) : Reply :=
  ⟨.invalidTable, false, [BitVec.ofNat 8 f.table, BitVec.ofNat 8 f.index, BitVec.ofNat 8 f.check.number]⟩

/-- The completion of a validation, its outcome decided in the order of R157. A refusal's report is taken before the
services that the answer lets begin (DESIGN CHOICE: notes/assumptions/27.md). -/
def completeValidation (v : Service) (s : State) : State :=
  if ¬(s.ctl.app = .road ∨ s.ctl.app = .unloaded) then
    finishService v .refusedMode (report .activationRefused (some 0) s)
  else
    match validate s.tables.shadow with
    | some f => finishService v f.reply (report .activationRefused (some f.check.number) s)
    | none =>
      if v.storeFlag then beginStore v (activationCopy s)
      else finishService v (.ok []) (activationCopy s)

/-- The end of a store (R159): with every part equal the image is whole and the marker is set last. STORE_FAILED is reported
before the services that the answer lets begin (DESIGN CHOICE: notes/assumptions/27.md). -/
def completeStore (v : Service) (equal : Bool) (s : State) : State :=
  if equal then
    finishService v (.ok [])
      { s with tables := { s.tables with storing := false, marker := true, store := ⟨s.tables.active, true⟩ } }
  else
    finishService v (.bare .storeFailed)
      (report .storeFailed none { s with tables := { s.tables with storing := false } })

/-- The completion of a power-up load (R160): both banks hold the image, and held requests are served, after the reports of
the mismatch test (DESIGN CHOICE: notes/assumptions/27.md). -/
def completeLoad (s : State) : State :=
  let image := s.tables.store.image
  serveWaiting
    (tablesTaken { s with tables := { s.tables with active := image, shadow := image, origin := .loaded } })

end Sys2Proof.Machine
end

