-- ==== Sys2Proof/Machine/Clock.lean ====
section
/-! DEFINITION. One millisecond of the time base: the Frame Clock and every running countdown (R68, 00 section 3.7;
notes/assumptions/1.md). -/

namespace Sys2Proof.Machine

/-- A countdown one millisecond on; one that stands at 0 waits for its expiry to be taken. -/
def countDown (t : Option Nat) : Option Nat :=
  match t with
  | none => none
  | some n => some (n - 1)

/-- A slot's hold countdown one millisecond on. -/
def HoldTimer.countDown : HoldTimer → HoldTimer
  | .running n => .running (n - 1)
  | .stopped => .stopped
  | .never => .never
  | .expired => .expired

def PortRec.tick (r : PortRec) : PortRec := { r with recovery := countDown r.recovery }

def Slot.tick (x : Slot) : Slot := { x with freshness := countDown x.freshness, hold := x.hold.countDown }

def Debouncer.tick (d : Debouncer) : Debouncer := { d with countdown := countDown d.countdown }

def Controller.tick (c : Controller) : Controller :=
  { c with
    phaseTimer := countDown c.phaseTimer, creep := countDown c.creep, flash := countDown c.flash
    park := c.park.tick, mainFb := c.mainFb.tick, auxFb := c.auxFb.tick }

def CeilingUnit.tick (u : CeilingUnit) : CeilingUnit :=
  { u with timer := u.timer - 1, reassert := countDown u.reassert }

def CompRec.tick (x : CompRec) : CompRec := { x with hold := countDown x.hold, evalTimer := countDown x.evalTimer }

def TankUnit.tick (u : TankUnit) : TankUnit :=
  { comps := Vector.ofFn fun c => u.comps[c].tick, report := countDown u.report }

def Engine.tick (g : Engine) : Engine :=
  { g with
    statusTimer := countDown g.statusTimer
    restart := g.restart.map fun r => { r with left := r.left - 1 } }

/-- One millisecond (R68): the Frame Clock advances by 1 and wraps; every running countdown goes down by 1. -/
def tick (s : State) : State :=
  { s with
    clock := s.clock + 1, chassis := s.chassis.tick, body := s.body.tick
    slots := Vector.ofFn fun i => s.slots[i].tick
    ctl := s.ctl.tick, ceil := s.ceil.tick, tank := s.tank.tick, engine := s.engine.tick }

end Sys2Proof.Machine
end

