-- ==== Sys2Proof/Machine/LinkCommands.lean ====
section
/-! DEFINITION. The meanings of the resets, the frame arrival and the events of queues, ports and links. -/

namespace Sys2Proof.Machine

/-- What a command answers. -/
abbrev Answer := Host.Outcome State Fault Refusal

/-- POWER_RESET (R160). -/
def execPowerReset (straps : Straps) (s : State) : Answer := .next (hardReset straps s)

/-- PIN_RESET: the same effect as a power reset (00 section 1.5, R160). -/
def execPinReset (straps : Straps) (s : State) : Answer := .next (hardReset straps s)

/-- FRAME_ARRIVAL (R4 to R7). -/
def execFrameArrival (p : Port) (f : Frame) (s : State) : Answer := .next (arrive p (deliver f) s)

/-- QUEUE_MOVE (R29). -/
def execQueueMove (q : QueueId) (s : State) : Answer := .next (s.setQueue q (s.queue q).move)

/-- ATTEMPT_START (R31, R32, R38). -/
def execAttemptStart (p : Port) (s : State) : Answer := .next (startAttempt p s)

/-- ATTEMPT_SUCCESS (R33). -/
def execAttemptSuccess (p : Port) (s : State) : Answer := .next (endInSuccess p s)

/-- ATTEMPT_FAILURE (R34, R40). -/
def execAttemptFailure (p : Port) (s : State) : Answer := .next (endInFailure p s)

/-- ARBITRATION_LOSS (R35). -/
def execArbitrationLoss (p : Port) (s : State) : Answer := .next (endInLoss p s)

/-- RECOVERY_TIMER_EXPIRY (R41): taken when the port is in BUS_FAULT and its timer has run out. -/
def execRecoveryTimerExpiry (p : Port) (s : State) : Answer :=
  .next (if (s.port p).st = .busFault ∧ (s.port p).recovery = some 0 then recover p s else s)

end Sys2Proof.Machine
end

