-- ==== Sys2Proof/Machine/InputCommands.lean ====
section
/-! DEFINITION. The meanings of the events of the discrete inputs and of the lamp (R79, R80, R106). -/

namespace Sys2Proof.Machine

/-- The debouncer of an input. -/
def Controller.input (c : Controller) : InputId → Debouncer
  | .parkSw => c.park
  | .mainFb => c.mainFb
  | .auxFb => c.auxFb

/-- The debouncer of an input changed. -/
def Controller.setInput (c : Controller) (i : InputId) (d : Debouncer) : Controller :=
  match i with
  | .parkSw => { c with park := d }
  | .mainFb => { c with mainFb := d }
  | .auxFb => { c with auxFb := d }

/-- The controller's event for a changed debounced input (R78). -/
def onInput (i : InputId) (s : State) : State :=
  match i with
  | .parkSw => onPark s
  | .mainFb => onMainFb s
  | .auxFb => onAuxFb s

/-- DISCRETE_PIN_CHANGE (R79): the pin takes the level; the countdown starts or is cancelled. -/
def execDiscretePinChange (i : InputId) (low : Bool) (s : State) : Answer :=
  .next (s.setCtl (s.ctl.setInput i ({ s.ctl.input i with pinLow := low }.settle)))

/-- DEBOUNCED_INPUT_CHANGE (R79): taken when the countdown has run out; the level takes the pin level, and the
controller has its event. -/
def execDebouncedInputChange (i : InputId) (s : State) : Answer :=
  let d := s.ctl.input i
  .next
    (if d.countdown = some 0 then
      onInput i (s.setCtl (s.ctl.setInput i ⟨d.pinLow, d.pinLow, none⟩))
    else s)

/-- LAMP_FLASH_TOGGLE (R106): taken when the half period has run out; the PUMP_OK pin alternates. -/
def execLampFlashToggle (s : State) : Answer :=
  .next
    (if s.ctl.flash = some 0 then s.setCtl { s.ctl with lampHigh := !s.ctl.lampHigh, flash := some 500 } else s)

end Sys2Proof.Machine
end

