-- ==== Sys2Proof/Machine/TimerCommands.lean ====
section
/-! DEFINITION. The meanings of the timer expiries and of the clock tick. An expiry is taken when its countdown runs and
stands at 0; otherwise nothing expires and nothing changes (notes/assumptions/1.md, 2.md). -/

namespace Sys2Proof.Machine

/-- FRESHNESS_EXPIRY (R57). -/
def execFreshnessExpiry (i : Fin 32) (s : State) : Answer :=
  .next (if s.slots[i].freshness = some 0 then freshnessEvent i s else s)

/-- HOLD_EXPIRY (R63). -/
def execHoldExpiry (i : Fin 32) (s : State) : Answer :=
  .next (if s.slots[i].hold = .running 0 then holdEvent i s else s)

/-- PHASE_TIMER_EXPIRY (R77). -/
def execPhaseTimerExpiry (s : State) : Answer :=
  .next (if s.ctl.phaseTimer = some 0 then onPhaseTimer s else s)

/-- CREEP_DETECTED (R95): the creep timer expires. -/
def execCreepDetected (s : State) : Answer :=
  .next (if s.ctl.creep = some 0 then disengageFor .creepDetected none s else s)

/-- CEILING_TIMER_EXPIRY (R107, R111). -/
def execCeilingTimerExpiry (s : State) : Answer :=
  .next
    (if s.ceil.timer = 0 then evaluateCeiling { s with ceil := { s.ceil with timer := 100 } } else s)

/-- REASSERTION_TIMER_EXPIRY (R121). -/
def execReassertionTimerExpiry (s : State) : Answer :=
  .next (if s.ceil.reassert = some 0 ∧ s.ceil.content ≠ .notEmitting then emitLockout s else s)

/-- EVALUATION_TIMER_EXPIRY (R129): the timer is reloaded and the compartment evaluated. -/
def execEvaluationTimerExpiry (c : Fin 4) (s : State) : Answer :=
  .next
    (if (s.tank.comps[c]).evalTimer = some 0 then
      evaluateComp c (s.setComp c { s.tank.comps[c] with evalTimer := some 100 })
    else s)

/-- HOLD_COUNTDOWN_EXPIRY (R133, R143). -/
def execHoldCountdownExpiry (c : Fin 4) (s : State) : Answer :=
  .next
    (if (s.tank.comps[c]).hold = some 0 ∧ (s.tank.comps[c]).validity = .held then levelReport (becomeUnknown c s)
     else s)

/-- REPORT_TIMER_EXPIRY (R143). -/
def execReportTimerExpiry (s : State) : Answer :=
  .next (if s.tank.report = some 0 then levelReport s else s)

/-- STATUS_TIMER_EXPIRY (R171): the page named next is placed, the page switches and the timer is reloaded. -/
def execStatusTimerExpiry (s : State) : Answer :=
  .next
    (if s.engine.statusTimer = some 0 then
      let t := placeStatus (s.statusFrame s.engine.nextPage) s
      loadStatusTimer { t with engine := { t.engine with nextPage := s.engine.nextPage.other } }
    else s)

/-- RESTART_COUNTDOWN_EXPIRY (R174). -/
def execRestartCountdownExpiry (s : State) : Answer :=
  .next
    (match s.engine.restart with
     | some r => if r.left = 0 then softReset s else s
     | none => s)

/-- FRAME_CLOCK_TICK (R68). -/
def execFrameClockTick (s : State) : Answer := .next (tick s)

end Sys2Proof.Machine
end

