-- ==== Sys2Proof/Machine/TableCommands.lean ====
section
/-! DEFINITION. The meanings of the completions of a validation, a store and a power-up load (R157, R159, R160). -/

namespace Sys2Proof.Machine

/-- The ACTIVATE in service at a stage, if there is one (R168). -/
def Engine.serviceAt (g : Engine) (st : ServiceStage) : Option Service :=
  match g.inService with
  | some v => if v.stage = st then some v else none
  | none => none

/-- VALIDATION_COMPLETION (R157): nothing where no validation is in progress. -/
def execValidationCompletion (s : State) : Answer :=
  .next
    (match s.engine.serviceAt .validating with
     | some v => completeValidation v s
     | none => s)

/-- STORE_END (R159): nothing where no store is in progress. -/
def execStoreEnd (equal : Bool) (s : State) : Answer :=
  .next
    (match s.engine.serviceAt .storing with
     | some v => completeStore v equal s
     | none => s)

/-- POWER_UP_LOAD_COMPLETION (R160): nothing where no load is in progress. -/
def execPowerUpLoadCompletion (s : State) : Answer :=
  .next (if s.tables.origin = .loading then completeLoad s else s)

end Sys2Proof.Machine
end

