-- ==== Sys2Proof/Machine/RequestCommands.lean ====
section
/-! DEFINITION. The meanings of the management requests: each is the arrival at the Body Port of the request frame that
R181 lays out, which is counted, taken into the intake, and served as R165 allows (notes/assumptions/3.md). -/

namespace Sys2Proof.Machine

/-- Byte 2 of READ_TABLE and WRITE_TABLE: the table code in bits 5..7, the field number in bits 0..4 (R181). -/
def tableByte (table : BitVec 3) (field : BitVec 5) : Byte := table ++ field

/-- QUERY_STATUS, kind 1 (R172). -/
def execQueryStatus (tag page : Byte) (s : State) : Answer := .next (requestArrival [1, tag, page] s)

/-- READ_SIGNAL, kind 2 (R72). -/
def execReadSignal (tag slot : Byte) (s : State) : Answer := .next (requestArrival [2, tag, slot] s)

/-- READ_COMPARTMENT, kind 3 (R145). -/
def execReadCompartment (tag comp : Byte) (s : State) : Answer := .next (requestArrival [3, tag, comp] s)

/-- READ_TABLE, kind 4 (R149). -/
def execReadTable (tag : Byte) (table : BitVec 3) (field : BitVec 5) (index bank : Byte) (s : State) : Answer :=
  .next (requestArrival [4, tag, tableByte table field, index, bank] s)

/-- WRITE_TABLE, kind 5 (R150). -/
def execWriteTable (tag : Byte) (table : BitVec 3) (field : BitVec 5) (index : Byte) (value : BitVec 32) (s : State) :
    Answer :=
  .next (requestArrival ([5, tag, tableByte table field, index] ++ be32 value) s)

/-- COPY_ACTIVE_TO_SHADOW, kind 6 (R152). -/
def execCopyActiveToShadow (tag : Byte) (s : State) : Answer := .next (requestArrival [6, tag] s)

/-- ACTIVATE, kind 7 (R156). -/
def execActivate (tag store : Byte) (s : State) : Answer := .next (requestArrival [7, tag, store] s)

/-- PROBE, kind 8 (R153): bank in bit 7 of byte 2, port in bit 6, format in bit 5, mode class in bits 0..2 (R181). -/
def execProbe (tag : Byte) (bank port format : BitVec 1) (modeClass : BitVec 3) (ident : BitVec 32) (s : State) :
    Answer :=
  .next (requestArrival ([8, tag, bank ++ port ++ format ++ (0 : BitVec 2) ++ modeClass] ++ be32 ident) s)

/-- PORT_CONTROL QUIESCE, kind 9 control 0 (R44). -/
def execQuiesce (tag port : Byte) (s : State) : Answer := .next (requestArrival [9, tag, port, 0] s)

/-- PORT_CONTROL CUT, kind 9 control 1 (R45). -/
def execCut (tag port : Byte) (s : State) : Answer := .next (requestArrival [9, tag, port, 1] s)

/-- PORT_CONTROL RESUME, kind 9 control 2 (R46). -/
def execResume (tag port : Byte) (s : State) : Answer := .next (requestArrival [9, tag, port, 2] s)

/-- READ_COUNTER, kind 10 (R170). -/
def execReadCounter (tag group counter : Byte) (s : State) : Answer :=
  .next (requestArrival [10, tag, group, counter] s)

/-- CLEAR_COUNTERS, kind 11 (R170). -/
def execClearCounters (tag group : Byte) (s : State) : Answer := .next (requestArrival [11, tag, group] s)

/-- READ_FAULT, kind 12 (R179). -/
def execReadFault (tag : Byte) (s : State) : Answer := .next (requestArrival [12, tag] s)

/-- CLEAR_FAULT, kind 13 (R179). -/
def execClearFault (tag : Byte) (s : State) : Answer := .next (requestArrival [13, tag] s)

/-- CLEAR_FLAGS, kind 14 (R178): bit k of byte 2 names cause k + 1, of byte 3 cause k + 9, of byte 4 cause k + 17
(R182). -/
def execClearFlags (tag : Byte) (mask : BitVec 24) (s : State) : Answer :=
  .next
    (requestArrival [14, tag, mask.setWidth 8, (mask >>> 8).setWidth 8, (mask >>> 16).setWidth 8] s)

/-- RESTART, kind 15 (R173). -/
def execRestart (tag : Byte) (s : State) : Answer := .next (requestArrival [15, tag] s)

/-- BAD_REQUEST (R166): a request frame that is not well formed for any kind arrives. -/
def execBadRequest (kind : FrameKind) (length : Nat) (data : List Byte) (s : State) : Answer :=
  .next (arrive .body (deliver ⟨.extended, kind, s.nodeIdent 0x0C5AA100, length, data⟩) s)

end Sys2Proof.Machine
end

