-- ==== Sys2Proof/Machine/Dispatch.lean ====
section
/-! DEFINITION. One arm per command, each a direct call of its meaning. -/

namespace Sys2Proof.Machine

def exec (i : Instr) (s : State) : Host.Outcome State Fault Refusal :=
  match i with
  | .powerReset straps => Sys2Proof.Machine.execPowerReset straps s
  | .pinReset straps => Sys2Proof.Machine.execPinReset straps s
  | .frameArrival p f => Sys2Proof.Machine.execFrameArrival p f s
  | .queueMove q => Sys2Proof.Machine.execQueueMove q s
  | .attemptStart p => Sys2Proof.Machine.execAttemptStart p s
  | .attemptSuccess p => Sys2Proof.Machine.execAttemptSuccess p s
  | .attemptFailure p => Sys2Proof.Machine.execAttemptFailure p s
  | .arbitrationLoss p => Sys2Proof.Machine.execArbitrationLoss p s
  | .recoveryTimerExpiry p => Sys2Proof.Machine.execRecoveryTimerExpiry p s
  | .discretePinChange input low => Sys2Proof.Machine.execDiscretePinChange input low s
  | .debouncedInputChange input => Sys2Proof.Machine.execDebouncedInputChange input s
  | .freshnessExpiry slot => Sys2Proof.Machine.execFreshnessExpiry slot s
  | .holdExpiry slot => Sys2Proof.Machine.execHoldExpiry slot s
  | .phaseTimerExpiry => Sys2Proof.Machine.execPhaseTimerExpiry s
  | .creepDetected => Sys2Proof.Machine.execCreepDetected s
  | .ceilingTimerExpiry => Sys2Proof.Machine.execCeilingTimerExpiry s
  | .reassertionTimerExpiry => Sys2Proof.Machine.execReassertionTimerExpiry s
  | .evaluationTimerExpiry comp => Sys2Proof.Machine.execEvaluationTimerExpiry comp s
  | .holdCountdownExpiry comp => Sys2Proof.Machine.execHoldCountdownExpiry comp s
  | .reportTimerExpiry => Sys2Proof.Machine.execReportTimerExpiry s
  | .statusTimerExpiry => Sys2Proof.Machine.execStatusTimerExpiry s
  | .lampFlashToggle => Sys2Proof.Machine.execLampFlashToggle s
  | .queryStatus tag page => Sys2Proof.Machine.execQueryStatus tag page s
  | .readSignal tag slot => Sys2Proof.Machine.execReadSignal tag slot s
  | .readCompartment tag comp => Sys2Proof.Machine.execReadCompartment tag comp s
  | .readTable tag table field index bank => Sys2Proof.Machine.execReadTable tag table field index bank s
  | .writeTable tag table field index value => Sys2Proof.Machine.execWriteTable tag table field index value s
  | .copyActiveToShadow tag => Sys2Proof.Machine.execCopyActiveToShadow tag s
  | .activate tag store => Sys2Proof.Machine.execActivate tag store s
  | .validationCompletion => Sys2Proof.Machine.execValidationCompletion s
  | .storeEnd equal => Sys2Proof.Machine.execStoreEnd equal s
  | .powerUpLoadCompletion => Sys2Proof.Machine.execPowerUpLoadCompletion s
  | .probe tag bank p format modeClass ident => Sys2Proof.Machine.execProbe tag bank p format modeClass ident s
  | .quiesce tag p => Sys2Proof.Machine.execQuiesce tag p s
  | .cut tag p => Sys2Proof.Machine.execCut tag p s
  | .resume tag p => Sys2Proof.Machine.execResume tag p s
  | .readCounter tag group counter => Sys2Proof.Machine.execReadCounter tag group counter s
  | .clearCounters tag group => Sys2Proof.Machine.execClearCounters tag group s
  | .readFault tag => Sys2Proof.Machine.execReadFault tag s
  | .clearFault tag => Sys2Proof.Machine.execClearFault tag s
  | .clearFlags tag mask => Sys2Proof.Machine.execClearFlags tag mask s
  | .restart tag => Sys2Proof.Machine.execRestart tag s
  | .restartCountdownExpiry => Sys2Proof.Machine.execRestartCountdownExpiry s
  | .frameClockTick => Sys2Proof.Machine.execFrameClockTick s
  | .badRequest kind length data => Sys2Proof.Machine.execBadRequest kind length data s

end Sys2Proof.Machine
end

