-- ==== Sys2Proof/WellFormed.lean ====
section
/-! DEFINITION. Which commands can be sent: the frames of FRAME_ARRIVAL and BAD_REQUEST are frames a link can carry. -/

namespace Sys2Proof

/-- A frame as the link carries it (R4): a STANDARD identifier in 0..2047, a length code in 0..15, and for DATA exactly
as many bytes as the length code, taken as 8 when above 8; a remote frame has none. -/
def Frame.wellFormed (f : Frame) : Bool :=
  (f.format == .extended || f.ident.toNat < 2048)
  && f.length ≤ 15
  && (match f.kind with
      | .data => f.data.length == min f.length 8
      | .remote => f.data.isEmpty)

/-- The least length of the request kinds, by kind code 1..15 (R181); no other code names a kind. -/
def requiredLength (code : Nat) : Option Nat :=
  match code with
  | 1 => some 3 | 2 => some 3 | 3 => some 3 | 4 => some 5 | 5 => some 8
  | 6 => some 2 | 7 => some 3 | 8 => some 7 | 9 => some 4 | 10 => some 4
  | 11 => some 3 | 12 => some 2 | 13 => some 2 | 14 => some 5 | 15 => some 2
  | _ => none

/-- What R166 answers BAD_REQUEST: no kind, too short, or a remote frame. -/
def badRequestFrame (kind : FrameKind) (length : Nat) (data : List Byte) : Bool :=
  match kind with
  | .remote => true
  | .data =>
    match data with
    | [] => true
    | b :: _ =>
      match requiredLength (b.toNat % 16) with
      | none => true
      | some n => min length 8 < n

/-- The commands that can be sent. Every operand of the other rows is well formed by its type. -/
def WellFormed (i : Instr) : Bool :=
  match i with
  | .frameArrival _ f => f.wellFormed
  | .badRequest kind length data =>
    (Frame.wellFormed ⟨.extended, kind, 0, length, data⟩) && badRequestFrame kind length data
  | _ => true

end Sys2Proof
end

