-- ==== Sys2Proof/Safety.lean ====
section
/-! DEFINITION. What a coherent state is: the laws the manual states of the part as a whole, as predicates on State, and
the terms in which the statements speak of a management request that is served at its arrival. -/

namespace Sys2Proof.Safety

open Sys2Proof.Machine

/-! ## Signal slots (R51, R62, R63) -/

/-- A slot as R51 describes it: LOST exactly at health counter 255, HEALTHY only below 64, SUSPECT from 64 on, recovery
count and hold countdown at rest outside LOST, and in LOST the countdown stopped just while a recovery is under way. -/
structure SlotCoherent (x : Slot) : Prop where
  counter : x.hc ≤ 255
  lost : x.status = .lost ↔ x.hc = 255
  healthy : x.status = .healthy → x.hc < 64
  suspect : x.status = .suspect → 64 ≤ x.hc
  atRest : x.status ≠ .lost → x.recovery = 0 ∧ x.hold = .stopped
  recovery : x.recovery < 8
  stopped : x.status = .lost → (x.hold = .stopped ↔ 0 < x.recovery)
  holds : x.status = .healthy ∨ x.status = .suspect → x.value.isSome
  noData : x.status = .noData → x.value = none ∧ x.stamp = none
  expired : x.hold = .expired → x.value = none

/-- Every slot is coherent. -/
def SlotsCoherent (s : State) : Prop := ∀ i : Fin 32, SlotCoherent s.slots[i]

/-! ## Forwarding queues (R26, R28, R34) -/

/-- Two body records that the law of R28 forbids beside one another. -/
abbrev Rivals (a b : FrameRecord) : Prop :=
  a.latestOnly = true ∧ b.latestOnly = true ∧ a.ident = b.ident ∧ a.format = b.format

/-- The law of a queue's body (R28), with the attempt counts of R26 and R34. -/
structure QueueCoherent (u : Queue) : Prop where
  size : u.body.length ≤ 16
  latest : u.body.Pairwise fun a b => ¬Rivals a b
  fresh : ∀ r ∈ u.body, r.attempts = 0
  tried : ∀ r ∈ u.out, r.attempts < 8

/-- Both queues obey their law. -/
def QueuesCoherent (s : State) : Prop := QueueCoherent s.bc ∧ QueueCoherent s.cb

/-- The difference that R30 says is 0: entered less transmitted, abandoned, flushed and held, modulo 2^32. -/
def balance (u : Queue) : Count :=
  u.entered - (u.transmitted + u.abandoned + u.flushed + BitVec.ofNat 32 u.held)

/-! ## Drive Interlock Controller (R73, R75, R105, R106) -/

/-- The phases of an apparatus state (R73). -/
def phasesOf : AppState → List Phase
  | .mainEngaging => [.a, .b, .c]
  | .auxEngaging => [.a, .b]
  | .disengaging => [.d1, .d2, .d3]
  | .unloaded | .road | .pump | .roll | .faultHold => [.none]

/-- Where MAIN_SHIFT is asserted (R105): MAIN_ENGAGING B and C, PUMP, DISENGAGING of origin MAIN before D3. -/
abbrev mainAsserted (c : Controller) : Prop :=
  (c.app = .mainEngaging ∧ c.phase ≠ .a) ∨ c.app = .pump
  ∨ (c.app = .disengaging ∧ c.origin = some .main ∧ c.phase ≠ .d3)

/-- Where AUX_CLUTCH is asserted (R105): AUX_ENGAGING B, ROLL, DISENGAGING of origin AUX before D3. -/
abbrev auxAsserted (c : Controller) : Prop :=
  (c.app = .auxEngaging ∧ c.phase ≠ .a) ∨ c.app = .roll
  ∨ (c.app = .disengaging ∧ c.origin = some .aux ∧ c.phase ≠ .d3)

/-- The lamp setting by condition (R106). -/
def lampOf (c : Controller) : Lamp :=
  match c.app with
  | .unloaded | .mainEngaging | .auxEngaging | .disengaging => .off
  | .road => if c.mismatch then .flash else .off
  | .pump => if c.guard then .flash else .on
  | .roll => .on
  | .faultHold => .flash

/-- The controller's record as R73, R75, R105 and R106 describe it. -/
structure ControllerCoherent (c : Controller) : Prop where
  phase : c.phase ∈ phasesOf c.app
  timer : c.phaseTimer.isSome ↔ c.phase ≠ .none
  origin : c.origin.isSome ↔ c.app = .disengaging
  cause : c.cause.isSome ↔ c.app = .disengaging ∨ c.app = .faultHold
  release : c.app = .faultHold → c.cause = some (.cause .releaseTimeout)
  main : c.mainShift = true ↔ mainAsserted c
  aux : c.auxClutch = true ↔ auxAsserted c
  guard : c.guard = true → c.app = .pump
  creep : c.creep.isSome → c.app = .pump
  overspeed : c.overspeed = true → c.app = .roll
  speedAbsent : c.speedAbsent = true → c.app = .roll
  mismatch : c.mismatch = true → c.app = .road
  seeded : c.seeded = true ↔ c.lastReq.isSome
  unseeded : c.app = .unloaded → c.seeded = false
  lamp : c.lamp = lampOf c
  flash : c.flash.isSome ↔ c.lamp = .flash
  steady : (c.lamp = .off → c.lampHigh = false) ∧ (c.lamp = .on → c.lampHigh = true)

/-- The two drive outputs are never asserted together (R105). -/
theorem ControllerCoherent.notBoth {c : Controller} (h : ControllerCoherent c) :
    ¬(c.mainShift = true ∧ c.auxClutch = true) := by
  rintro ⟨hm, ha⟩
  rcases h.main.mp hm with ⟨h1, _⟩ | h1 | ⟨h1, h2, _⟩ <;>
    rcases h.aux.mp ha with ⟨h3, _⟩ | h3 | ⟨h3, h4, _⟩ <;> simp_all

/-! ## Ceiling and Lockout Unit (R107, R112, R113, R119) -/

/-- The contents that may stand in a state and phase (R75, R103): D1 keeps what was in force at its entry. -/
def contentsOf (c : Controller) : List Content :=
  match c.app with
  | .unloaded | .road => [.notEmitting]
  | .mainEngaging => if c.phase = .c then [.holdPump] else [.holdNeutral]
  | .pump => [.holdPump]
  | .auxEngaging => [.holdNeutral]
  | .roll => [.restrict]
  | .disengaging => if c.phase = .d1 then [.holdNeutral, .holdPump, .restrict] else [.holdNeutral]
  | .faultHold => [.holdNeutral]

/-- The states in which the mode base is 0 (R109). -/
def holdsDown (app : AppState) : Bool :=
  app == .mainEngaging || app == .auxEngaging || app == .disengaging || app == .faultHold

/-- The unit's record beside a controller: E in 0..1000, 0 where the mode base is 0 and 1000 in UNLOADED (R112, R113);
the content that R75 names; the reassertion timer running just while one is emitted (R121); protection in force in PUMP
and ROLL alone (R110). -/
structure CeilingCoherent (c : Controller) (u : CeilingUnit) : Prop where
  range : u.e ≤ 1000
  down : holdsDown c.app = true → u.e = 0
  transparent : c.app = .unloaded → u.e = 1000
  content : u.content ∈ contentsOf c
  reassert : u.reassert.isSome ↔ u.content ≠ .notEmitting
  protection : u.protection = true → c.app = .pump ∨ c.app = .roll

/-- The interlock and the ceiling together. -/
def DriveCoherent (s : State) : Prop := ControllerCoherent s.ctl ∧ CeilingCoherent s.ctl s.ceil

/-! ## Table Memory (R147, R157, R160, R161) -/

/-- The Active bank is the cleared bank in UNLOADED, and a valid bank in every other state; the image behind a set
marker is valid; a store runs just while its ACTIVATE is in service, and no ACTIVATE is in service during a load. -/
structure TablesCoherent (s : State) : Prop where
  marker : s.tables.marker = s.tables.store.marker
  image : s.tables.store.marker = true → validate s.tables.store.image = none
  unloaded : s.ctl.app = .unloaded ↔ s.tables.origin = .cleared ∨ s.tables.origin = .loading
  cleared : s.ctl.app = .unloaded → s.tables.active = clearedBank
  valid : s.ctl.app ≠ .unloaded → validate s.tables.active = none
  loading : s.tables.origin = .loading →
    s.tables.store.marker = true ∧ s.engine.inService = none ∧ s.engine.restart = none
  storing : s.tables.storing = true ↔ ∃ v, s.engine.inService = some v ∧ v.stage = .storing
  activated : s.tables.storing = true → s.tables.origin = .activated

/-- The last forwarded range in ROLL (R117). -/
def RangeAllowed (s : State) : Prop :=
  s.ctl.app = .roll → s.ceil.lastRange ∈ s.tables.active.params.rollSet

/-! ## Ports and local places (R31, R36 to R43) -/

/-- Nothing is left of what a port may not hold while STOPPED (R43). -/
def Emptied (s : State) (p : Port) : Prop := s.drained p = true

/-- The places a port offers (R36): the LOCKOUT place on the Chassis Port, the others on the Body Port. -/
def offersSource : Port → Source → Bool
  | .chassis, .lockout => true
  | .chassis, .output => true
  | .chassis, _ => false
  | .body, .lockout => false
  | .body, _ => true

/-- A port with what it holds: the frame in mid-attempt still stands where it was (R31); the timer runs just in BUS_FAULT,
where no attempt is in progress (R40, R41); the run counter stays below 32 elsewhere; a STOPPED port holds nothing and
attempts only responses (R43); a QUIESCING port is not yet drained (R42). -/
structure PortCoherent (s : State) (p : Port) : Prop where
  held : ∀ a ∈ (s.port p).attempt,
    offersSource p a.source = true
    ∧ (if a.source = .output then (s.queue (queueToward p)).out.isSome else (s.places.at a.source).isSome)
  run : (s.port p).st ≠ .busFault → (s.port p).run < 32
  timer : (s.port p).recovery.isSome ↔ (s.port p).st = .busFault
  silent : (s.port p).st = .busFault → (s.port p).attempt = none
  pending : (s.port p).quiescePending = true ↔ (s.port p).st = .busFault ∧ (s.port p).ret ≠ .active
  ret : (s.port p).ret ≠ .busFault
  quiescing : (s.port p).st = .quiescing → s.drained p = false
  stopped : (s.port p).st = .stopped → Emptied s p
  returns : (s.port p).st = .busFault → (s.port p).ret = .stopped → Emptied s p

/-- A replacement waits only behind a frame in mid-attempt (R37), and a frame in a place has failed fewer than 8 times
(R34). -/
structure PlacesCoherent (s : State) : Prop where
  lockout : s.places.lockout.waiting.isSome → s.chassis.attempting .lockout = true
  status : s.places.status.waiting.isSome → s.body.attempting .status = true
  level : s.places.level.waiting.isSome → s.body.attempting .level = true
  tried : ∀ src f, s.places.at src = some f → f.attempts < 8

/-- Both ports and the local places. -/
def PortsCoherent (s : State) : Prop := PortCoherent s .chassis ∧ PortCoherent s .body ∧ PlacesCoherent s

/-! ## Management Engine (R165, R168, R173) -/

/-- No request waits at which service could begin (R165); the place an ACTIVATE has claimed holds no frame (R168). -/
structure EngineCoherent (s : State) : Prop where
  eager : s.mayServe = true → s.places.freeResp.isSome → s.engine.bufX = none ∧ s.engine.bufY = none
  claim : ∀ v, s.engine.inService = some v → s.places.resp v.place = none

/-! ## Starting values (R70, R80, R128, R171) -/

/-- A debounced input as a reset leaves it: inactive, and counting where its pin is found active (R80). -/
def startInput (d : Debouncer) : Debouncer := ⟨d.pinLow, false, if d.pinLow then some 20 else none⟩

/-- The controller's record as a reset leaves it in a state (R73), the pins being as they are. -/
def startCtl (c : Controller) (app : AppState) : Controller :=
  { State.reset.ctl with
    app := app, park := startInput c.park, mainFb := startInput c.mainFb, auxFb := startInput c.auxFb }

/-- Every slot as a reset leaves it under a bank (R70). -/
def startSlots (b : Bank) : Vector Slot 32 :=
  Vector.ofFn fun i =>
    ⟨none, .noData, 0, 0, if b.sdt[i].freshness = 0 then none else some b.sdt[i].freshness, .stopped, none⟩

/-- Every compartment as a reset leaves it under a bank (R128). -/
def startComps (b : Bank) : Vector CompRec 4 :=
  Vector.ofFn fun c =>
    if b.comps[c].enabled then ⟨.unknown, .none, none, 0, 0, 0, none, some 100⟩
    else ⟨.disabled, .none, none, 0, 0, 0, none, none⟩

/-- A period of n × 100 ms as a timer's load, off for 0 (R143, R171). -/
def periodLoad (n : Nat) : Option Nat := if n = 0 then none else some (n * 100)

/-! ## Frames taken by a port (R4, R5, R27) -/

/-- The port takes part in its link as a receiver of every frame (R4): ACTIVE or QUIESCING. -/
def Receives (s : State) (p : Port) : Prop := (s.port p).st = .active ∨ (s.port p).st = .quiescing

/-- The port's count of an arrival (R40, R48). -/
def counted (p : Port) (s : State) : State :=
  s.setPort p { s.port p with run := 0, arrivals := (s.port p).arrivals + 1 }

/-- The offer of a record that is not latest-only (R27): dropped-stopped, entering or dropped-full. -/
def takenBy (q : QueueId) (r : FrameRecord) (s : State) : State :=
  let u := s.queue q
  if (s.port (destination q)).refusesFrames then s.setQueue q { u with droppedStopped := u.droppedStopped + 1 }
  else if u.body.length < 16 then s.setQueue q { u with body := u.body ++ [r], entered := u.entered + 1 }
  else report .queueOverflow (some (queueIndex q)) (s.setQueue q { u with droppedFull := u.droppedFull + 1 })

/-- An entry matches a frame, condition by condition and bit by bit (R9, R10). -/
def Matches (e : FctEntry) (p : Port) (cls : Nat) (format : Format) (kind : FrameKind) (ident : Ident) : Prop :=
  e.enabled = true ∧ (e.ports = .both ∨ (e.ports = .chassis ∧ p = .chassis) ∨ (e.ports = .body ∧ p = .body))
  ∧ e.modes.getLsbD cls = true ∧ format = e.format ∧ kind = .data
  ∧ ∀ k < 29, e.mask.getLsbD k = true ∨ ident.getLsbD k = e.base.getLsbD k

/-- No notifying role is bound to the slot (R66). -/
def Unnotified (m : RoleMap) (i : Fin 32) : Prop :=
  m.roadSpeed ≠ some i ∧ m.engineSpeed ≠ some i ∧ m.currentRange ≠ some i ∧ m.modeRequest ≠ some i

/-- A frame wins an entry of one extractor with action SINK, and the extractor finds its field (R16, R20). -/
structure SinkUpdate (s : State) (p : Port) (f : Frame) (i : Fin 48) (x : Extractor) (eng : Int) : Prop where
  frame : f.wellFormed = true
  data : f.kind = .data
  plain : s.diverts p f = false
  receives : Receives s p
  wins : ∃ cls, modeClass s.ctl.app = some cls ∧ s.tables.active.search p cls f.format f.kind f.ident = some i
  action : s.tables.active.fct[i].action = .sink
  extractor : s.tables.active.fct[i].extractors = [x]
  fits : x.field.fits (min f.length 8) = true
  good : s.tables.active.sdt[x.slot].grade (.raw (readField x.field f.data) x.field.width) = some eng

/-- A slot after a good update (R61, R62). -/
def goodSlot (d : SlotDef) (clock : Clock) (eng : Int) (x : Slot) : Slot :=
  let y := { x with
    value := some eng, stamp := some clock, freshness := if d.freshness = 0 then none else some d.freshness }
  if x.status = .lost then
    if x.recovery < 7 then { y with hc := 255, recovery := x.recovery + 1, hold := .stopped }
    else { y with hc := 63, status := .healthy, recovery := 0, hold := .stopped }
  else { y with hc := x.hc - 1, status := if x.hc - 1 < 64 then .healthy else .suspect, recovery := 0 }

/-- A slot after an error event, its freshness countdown aside (R58 to R60, R63). -/
def errorSlot (d : SlotDef) (x : Slot) : Slot :=
  let held : HoldTimer :=
    if d.holdTime = 0 then .expired else if d.holdTime = 255 then .never else .running (d.holdTime * 100)
  let kept := if d.holdTime = 0 then none else x.value
  if x.status = .lost ∧ x.recovery = 0 then { x with hc := 255 }
  else if x.status = .lost ∨ 255 ≤ x.hc + d.errorStep then
    { x with hc := 255, status := .lost, recovery := 0, hold := held, value := kept }
  else
    { x with
      hc := x.hc + d.errorStep, recovery := 0
      status := if x.status = .healthy ∧ 64 ≤ x.hc + d.errorStep then .suspect else x.status }

/-- The notifications of an event of a slot (R66): each notifying role bound to it, one in a valid bank. -/
def notified (i : Fin 32) (value : Option Int) (s : State) : State :=
  let m := s.tables.active.roles
  let one (bound : Option (Fin 32)) (r : Role) (t : State) : State := if bound = some i then notify r value t else t
  one m.modeRequest .modeRequest (one m.currentRange .currentRange
    (one m.engineSpeed .engineSpeed (one m.roadSpeed .roadSpeed s)))

/-- The state after such an update, before any notification. -/
def sunk (p : Port) (i : Fin 48) (x : Extractor) (eng : Int) (s : State) : State :=
  { counted p s with
    tables := { s.tables with hits := s.tables.hits.set i (min 65535 (s.tables.hits[i] + 1)) }
    slots := s.slots.set x.slot (goodSlot s.tables.active.sdt[x.slot] s.clock eng s.slots[x.slot]) }

/-- The mode class of an apparatus state by its code (R11, R181); UNLOADED has none. -/
abbrev InClass (app : AppState) (cls : Nat) : Prop :=
  (cls = 0 ∧ app = .road) ∨ (cls = 1 ∧ (app = .mainEngaging ∨ app = .auxEngaging ∨ app = .disengaging))
  ∨ (cls = 2 ∧ app = .pump) ∨ (cls = 3 ∧ app = .roll) ∨ (cls = 4 ∧ app = .faultHold)

/-- A frame wins an entry: it is received, not diverted, and the entry is the first that it matches (R4, R5, R12). -/
structure Wins (s : State) (p : Port) (f : Frame) (i : Fin 48) : Prop where
  frame : f.wellFormed = true
  plain : s.diverts p f = false
  receives : Receives s p
  wins : ∃ cls, InClass s.ctl.app cls ∧ s.tables.active.search p cls f.format f.kind f.ident = some i

/-- A field lies wholly within a number of data bytes (R17, R20). -/
abbrev WithinData (f : Field) (bytes : Nat) : Prop :=
  (f.order = .lowFirst ∧ f.start + f.width ≤ 8 * bytes)
  ∨ (f.order = .highFirst ∧ f.start / 8 + f.width / 8 ≤ bytes)

/-- The update event that one extractor delivers from a frame of so many data bytes (R20): a good value, or an error event
with the SIGNAL_LOST report of an entry into LOST; then the notification, which carries the value of a good update that
does not leave the slot LOST (R59, R66). -/
def extracted (bytes : Nat) (data : List Byte) (s : State) (x : Extractor) : State :=
  let d := s.tables.active.sdt[x.slot]
  let y := s.slots[x.slot]
  let put (z : Slot) : State := { s with slots := s.slots.set x.slot z }
  match if WithinData x.field bytes then d.grade (.raw (readField x.field data) x.field.width) else none with
  | some eng =>
    let z := goodSlot d s.clock eng y
    notified x.slot (if z.status = .lost then none else some eng) (put z)
  | none =>
    let z := errorSlot d y
    notified x.slot none
      (if y.status ≠ .lost ∧ z.status = .lost then report .signalLost (some x.slot.val) (put z) else put z)

/-- The offer of any record (R27, R28): where the queue takes offers and a latest-only record of its identifier and format
waits in the body, the first such record's content is replaced; else it enters or is dropped. -/
def offered (q : QueueId) (r : FrameRecord) (s : State) : State :=
  let u := s.queue q
  if (s.port (destination q)).refusesFrames = false ∧ ∃ old ∈ u.body, Rivals r old then
    s.setQueue q { u with
      body := u.body.modify (u.body.findIdx fun old => decide (Rivals r old))
        fun old => { r with kind := old.kind, attempts := 0 }
      superseded := u.superseded + 1 }
  else takenBy q r s

/-- What the winning entry's action does with the frame (R16, R17, R22): PASS, TAP, and CLAMP and RANGE_GUARD where the data
holds the whole edit field, offer a record of the entry's action; BLOCK, SINK and a frame too short offer none. -/
def forwardedBy (p : Port) (e : FctEntry) (f : Frame) (s : State) : State :=
  let bytes := min f.length 8
  let carry (action : RecAction) (edit : Option Field) (scale : Option Nat) : State :=
    offered (queueToward (otherPort p)) ⟨f.ident, f.format, f.kind, bytes, f.data, action, e.latestOnly, edit, scale, 0⟩ s
  match e.action with
  | .pass => carry .pass none none
  | .tap => carry .tap none none
  | .block | .sink => s
  | .clamp => if WithinData e.edit bytes then carry .clamp (some e.edit) (some e.fullScale) else s
  | .rangeGuard => if WithinData e.edit bytes then carry .rangeGuard (some e.edit) none else s

/-! ## Tank evaluations (R130, R134) -/

/-- The levels of the compartment's usable senders in list order: the slot's value and the mount offset, brought into 0..H
(R64, R130). -/
def usableLevels (e : CompEntry) (slots : Vector Slot 32) : List Nat :=
  (e.senders.toList.take e.senderCount).filterMap fun x =>
    match (slots[x.slot].status, slots[x.slot].value) with
    | (.healthy, some v) | (.suspect, some v) => some (max 0 (min (e.height : Int) (v + x.offset))).toNat
    | _ => none

/-- The filter state after a combined level l with shift k (R134), by whole steps: the difference to 16 × l is divided by
2^k without its remainder, and a difference other than 0 moves the state by at least 1. -/
def filtered (f16 : Option Nat) (l k : Nat) : Nat :=
  match f16 with
  | none => 16 * l
  | some f =>
    if f < 16 * l then f + max 1 ((16 * l - f) / 2 ^ k)
    else if 16 * l < f then f - max 1 ((f - 16 * l) / 2 ^ k)
    else f

/-! ## Attempts (R31, R38) -/

/-- The arbiter of the port takes the output stage's record: no attempt is in progress, the port sends, and no local
frame stands before it (R38). -/
def TakesOutput (s : State) (p : Port) (r : FrameRecord) : Prop :=
  (s.port p).attempt = none ∧ Receives s p ∧ (s.queue (queueToward p)).out = some r
  ∧ match p with
    | .chassis => s.places.lockout.cur = none
    | .body => s.places.resp1 = none ∧ s.places.resp2 = none ∧ s.places.busy = none
        ∧ s.places.status.cur = none ∧ s.places.level.cur = none

/-- A record whose edit field lies within its data (R2, R17). -/
structure HoldsField (r : FrameRecord) (f : Field) : Prop where
  edit : r.edit = some f
  geometry : f.geometryOk = true
  fits : f.fits r.length = true
  data : r.data.length = r.length

/-- The outgoing frame of a record: the field carries the value, every other bit, the length and the identifier are as
they arrived (R24, R32). -/
structure SentWith (r : FrameRecord) (f : Field) (value : Nat) (a : Attempt) : Prop where
  source : a.source = .output
  ident : a.frame.ident = r.ident
  format : a.frame.format = r.format
  kind : a.frame.kind = r.kind
  length : a.frame.length = r.length
  bytes : a.frame.data.length = r.data.length
  value : readField f a.frame.data = value
  others : ∀ n, n ∉ f.bits → dataBit a.frame.data n = dataBit r.data n

/-- The order in which a port's arbiter looks at the local places that are eligible in its state (R38). -/
def localOrder (s : State) : Port → List Source
  | .chassis => if s.chassis.st = .stopped then [] else [.lockout]
  | .body =>
    (if s.places.respOlder = .first then [.response .first, .response .second]
     else [.response .second, .response .first])
    ++ .busy :: (if s.body.st = .stopped then [] else [.status, .level])

/-- What happens to a frame generated for a LOCKOUT, STATUS or LEVEL place of a port (R36, R37): discarded by the port's
state, waiting behind a frame in mid-attempt, or taking the place. -/
def generated (r : PortRec) (src : Source) (f : Frame) (pl : Place) : Place :=
  if r.st = .quiescing ∨ r.st = .stopped ∨ (r.st = .busFault ∧ r.quiescePending = true) then pl
  else if r.attempt.map (·.source) = some src then { pl with waiting := some ⟨f, 0, false⟩ }
  else ⟨some ⟨f, 0, false⟩, none⟩

/-- The frame leaves its place, and a waiting replacement takes it unless the port's state discards it (R33, R37). -/
def vacated (refused : Bool) (pl : Places) : Source → Places
  | .lockout => { pl with lockout := ⟨if refused then none else pl.lockout.waiting, none⟩ }
  | .response .first => { pl with resp1 := none }
  | .response .second => { pl with resp2 := none }
  | .busy => { pl with busy := none }
  | .status => { pl with status := ⟨if refused then none else pl.status.waiting, none⟩ }
  | .level => { pl with level := ⟨if refused then none else pl.level.waiting, none⟩ }
  | .output => pl

/-- The replacement that waits for a place takes it, unless the port's state discards it (R37). -/
def settled (refused : Bool) (pl : Place) : Place :=
  ⟨if refused = false ∧ pl.waiting.isSome then pl.waiting else pl.cur, none⟩

/-- The frame stays in its place, unless a waiting replacement takes it (R35, R37). -/
def kept (refused : Bool) (pl : Places) : Source → Places
  | .lockout => { pl with lockout := settled refused pl.lockout }
  | .status => { pl with status := settled refused pl.status }
  | .level => { pl with level := settled refused pl.level }
  | .response _ | .busy | .output => pl

/-- A QUIESCING port whose queue and LOCKOUT, STATUS and LEVEL places are empty enters STOPPED (R42). -/
def stopIfDrained (p : Port) (s : State) : State :=
  let q := s.queue (queueToward p)
  if (s.port p).st = .quiescing ∧ q.body = [] ∧ q.out = none
      ∧ (p = .chassis → s.places.lockout = ⟨none, none⟩)
      ∧ (p = .body → s.places.status = ⟨none, none⟩ ∧ s.places.level = ⟨none, none⟩) then
    s.setPort p { s.port p with st := .stopped }
  else s

/-! ## Disengaging (R98, R109, R111) -/

/-- The state after a disengaging has begun, while the engine is not slow: phase D1 with T_D1 loaded, the origin by the
output asserted, the outputs and the lockout content as they were, the flags of the state left cleared, the lamp off, and
the ceiling at 0 with no protection in force (R75, R98, R110). -/
def disengagingFrom (cause : DisCause) (s : State) : State :=
  { s with
    ctl := { s.ctl with
      app := .disengaging, phase := .d1, cause := some cause
      origin := some (if s.ctl.mainShift then .main else if s.ctl.auxClutch then .aux else .none)
      phaseTimer := some (if s.tables.active.params.tD1 = 0 then 40960 else s.tables.active.params.tD1 * 10)
      guard := false, creep := none, overspeed := false, speedAbsent := false, mismatch := false
      lamp := .off, lampHigh := false, flash := none }
    ceil := { s.ceil with e := 0, protection := false } }

/-- The change of a debounced input that violates what the state and phase expect, with the cause and the index reported
(R89, R90, R96). -/
def violation (c : Controller) (i : InputId) (active : Bool) : Option (Cause × Nat) :=
  match c.app, i, active with
  | .mainEngaging, .parkSw, false => some (.engageAborted, 1)
  | .mainEngaging, .mainFb, true => if c.phase = .a then some (.feedbackMismatch, 0) else none
  | .mainEngaging, .mainFb, false => if c.phase = .c then some (.feedbackMismatch, 0) else none
  | .mainEngaging, .auxFb, true => some (.feedbackMismatch, 1)
  | .auxEngaging, .mainFb, true => some (.feedbackMismatch, 0)
  | .auxEngaging, .auxFb, true => if c.phase = .a then some (.feedbackMismatch, 1) else none
  | .pump, .mainFb, false => some (.feedbackMismatch, 0)
  | .pump, .auxFb, true => some (.feedbackMismatch, 1)
  | .roll, .mainFb, true => some (.feedbackMismatch, 0)
  | .roll, .auxFb, false => some (.feedbackMismatch, 1)
  | _, _, _ => none

/-- The state after a return to ROAD with a content in force and the mismatch flag clear: one NONE lockout frame placed, the
content not emitting, the ceiling one rise step up (R75, R101, R102, R112, R120). -/
def backInRoad (s : State) : State :=
  let params := s.tables.active.params
  { s with
    ctl := { s.ctl with
      app := .road, phase := .none, origin := none, cause := none, phaseTimer := none
      mainShift := false, auxClutch := false, lamp := .off, lampHigh := false, flash := none
      guard := false, creep := none, overspeed := false, speedAbsent := false }
    ceil := { s.ceil with
      e := min 1000 (s.ceil.e + if params.riseStep = 0 then 1000 else params.riseStep)
      protection := false, content := .notEmitting, reassert := none }
    places := { s.places with
      lockout := generated s.chassis .lockout (s.tables.active.template.form 0 params.neutral) s.places.lockout } }

/-- HOLD_NEUTRAL named: nothing where it is the content in force, else a frame is placed and the reassertion timer loaded
(R75, R119, R120). -/
def holdingNeutral (s : State) : State :=
  let params := s.tables.active.params
  if s.ceil.content = .holdNeutral then s
  else
    { s with
      ceil := { s.ceil with
        content := .holdNeutral, reassert := some (if params.period = 0 then 4096 else params.period * 16) }
      places := { s.places with
        lockout := generated s.chassis .lockout (s.tables.active.template.form 1 params.neutral) s.places.lockout } }

/-- The entry into D3: T_B loaded, both outputs off, HOLD_NEUTRAL named; ended at once where both feedbacks are inactive
(R75, R78, R101). -/
def inD3 (s : State) : State :=
  let t := holdingNeutral { s with ctl := { s.ctl with
    phase := .d3
    phaseTimer := some (if s.tables.active.params.tB = 0 then 40960 else s.tables.active.params.tB * 10)
    mainShift := false, auxClutch := false } }
  if t.feedbacksClear then backInRoad t else t

/-- The entry into D2: T_A loaded, HOLD_NEUTRAL named; ended at once where the range is neutral (R75, R78, R100). -/
def inD2 (s : State) : State :=
  let t := holdingNeutral { s with ctl := { s.ctl with
    phase := .d2
    phaseTimer := some (if s.tables.active.params.tA = 0 then 40960 else s.tables.active.params.tA * 10) } }
  if t.rangeNeutral then inD3 t else t

/-- The entry into DISENGAGING whole: D1, ended at once where the engine is slow (R78, R98, R99). -/
def disengagingThrough (cause : DisCause) (s : State) : State :=
  let t := disengagingFrom cause s
  if t.engineSlow then inD2 t else t

/-! ## Engagements (R87, R88, R92, R94, R95, R97) -/

/-- The entry into PUMP with HOLD_PUMP in force, the guard flag clear and no creep timer running: the ceiling is evaluated, and
a road speed usable and above the creep limit starts the creep timer, or expires it at once where the creep time is 0 (R94,
R95; the order: notes/assumptions/17.md). -/
def inPump (s : State) : State :=
  let params := s.tables.active.params
  let t := evaluateCeiling { s with ctl := { s.ctl with
    app := .pump, phase := .none, phaseTimer := none, mainShift := true, auxClutch := false, creep := none
    overspeed := false, speedAbsent := false, mismatch := false, lamp := .on, lampHigh := true, flash := none } }
  match s.usable .roadSpeed with
  | none => t
  | some v =>
    if v ≤ params.creepLimit then t
    else if 0 < params.creepTime then { t with ctl := { t.ctl with creep := some params.creepTime } }
    else disengagingThrough (.cause .creepDetected) (report .creepDetected none t)

/-- The entry into MAIN_ENGAGING C with another content than HOLD_PUMP in force: HOLD_PUMP named and T_C loaded; ended at once
where the range is the pump range (R75, R78, R88). -/
def inMainC (s : State) : State :=
  let params := s.tables.active.params
  let t : State := { s with
    ctl := { s.ctl with phase := .c, phaseTimer := some (if params.tC = 0 then 40960 else params.tC * 10) }
    ceil := { s.ceil with
      content := .holdPump, reassert := some (if params.period = 0 then 4096 else params.period * 16) }
    places := { s.places with
      lockout := generated s.chassis .lockout (s.tables.active.template.form 2 params.pumpRange) s.places.lockout } }
  if s.usable .currentRange = some (params.pumpRange : Int) then inPump t else t

/-- The entry into ROLL with another content than RESTRICT in force and both roll flags clear: the last forwarded range is the
neutral code, a RESTRICT frame carries it, and the roll flags follow the present road speed (R92, R97; the order of the
report and the evaluation: notes/assumptions/22.md). -/
def inRoll (s : State) : State :=
  let params := s.tables.active.params
  let rolling (overspeed absent : Bool) : State := { s with
    ctl := { s.ctl with
      app := .roll, phase := .none, phaseTimer := none, mainShift := false, auxClutch := true, guard := false, creep := none
      overspeed := overspeed, speedAbsent := absent, mismatch := false, lamp := .on, lampHigh := true, flash := none }
    ceil := { s.ceil with
      lastRange := params.neutral, content := .restrict
      reassert := some (if params.period = 0 then 4096 else params.period * 16) }
    places := { s.places with
      lockout := generated s.chassis .lockout (s.tables.active.template.form 3 params.neutral) s.places.lockout } }
  evaluateCeiling
    (match s.present .roadSpeed with
     | none => report .speedAbsentRolling none (rolling false true)
     | some v =>
       if v ≤ params.rollSpeedLimit then rolling false false else report .rollOverspeed none (rolling true false))

/-! ## Codes of the layouts as bits (R181, R182) -/

/-- A 16-bit value in two bytes, most significant first. -/
def bytes16 (x : BitVec 16) : List Byte := [x.extractLsb' 8 8, x.extractLsb' 0 8]

/-- A 32-bit value in four bytes, most significant first. -/
def bytes32 (x : BitVec 32) : List Byte :=
  [x.extractLsb' 24 8, x.extractLsb' 16 8, x.extractLsb' 8 8, x.extractLsb' 0 8]

/-- A Boolean as one bit. -/
def oneBit (b : Bool) : BitVec 1 := BitVec.ofBool b

/-- A compartment word (R182): fill in bits 0..9, validity code in bits 10..11, band code in bits 12..13. -/
def wordBits (x : CompRec) : List Byte :=
  let validity : BitVec 2 :=
    match x.validity with
    | .valid => 0 | .held => 1 | .unknown => 2 | .disabled => 3
  let band : BitVec 2 :=
    match x.band with
    | .normal => 0 | .low => 1 | .empty => 2 | .none => 3
  bytes16 (0#2 ++ band ++ validity ++ BitVec.ofNat 10 x.p)

/-- The code of a port state in a status page (R182). -/
def portBits : PortSt → BitVec 2
  | .active => 0 | .quiescing => 1 | .stopped => 2 | .busFault => 3

/-- The cause code of a disengage cause in page A (R175, R182): absent 0, OPERATOR 31, and of the causes that begin a
disengaging or hold FAULT_HOLD their codes. -/
def disengageBits : Option DisCause → BitVec 5
  | none => 0
  | some .operator => 31
  | some (.cause c) => BitVec.ofNat 5 c.code

/-- The body of a status page, bytes 1..6 (R182). -/
def pageBits (p : Page) (s : State) : List Byte :=
  let c := s.ctl
  let clock := bytes16 s.clock
  match p with
  | .a =>
    let app : BitVec 3 :=
      match c.app with
      | .unloaded => 0 | .road => 1 | .mainEngaging => 2 | .pump => 3
      | .auxEngaging => 4 | .roll => 5 | .disengaging => 6 | .faultHold => 7
    let phase : BitVec 3 :=
      match c.phase with
      | .none => 0 | .a => 1 | .b => 2 | .c => 3 | .d1 => 4 | .d2 => 5 | .d3 => 6
    let origin : BitVec 2 :=
      match c.origin with
      | none => 0 | some .main => 1 | some .aux => 2 | some .none => 3
    let lamp : BitVec 2 :=
      match c.lamp with
      | .off => 0 | .on => 1 | .flash => 2
    [origin ++ phase ++ app, oneBit c.mainShift ++ lamp ++ disengageBits c.cause]
      ++ bytes16 (0#2 ++ oneBit c.auxFb.active ++ oneBit c.mainFb.active ++ oneBit c.park.active
        ++ oneBit c.auxClutch ++ BitVec.ofNat 10 s.ceil.e)
      ++ clock
  | .b =>
    let origin : BitVec 2 :=
      match s.tables.origin with
      | .cleared => 0 | .loading => 1 | .loaded => 2 | .activated => 3
    [oneBit s.tables.storing ++ oneBit s.tables.marker ++ origin ++ portBits s.body.st ++ portBits s.chassis.st,
      s.faults.flags.extractLsb' 0 8, s.faults.flags.extractLsb' 8 8, s.faults.flags.extractLsb' 16 8]
      ++ clock

/-! ## A request served at its arrival (R5, R163, R165) -/

/-- The next request is served within its arrival event, with the first RESPONSE place: the Body Port receives, no request
waits or is in service, no load runs, no RESTART is pending, and the place is empty. -/
structure ReadyToServe (s : State) : Prop where
  receives : s.body.st ≠ .busFault
  bufX : s.engine.bufX = none
  bufY : s.engine.bufY = none
  idle : s.engine.inService = none
  loaded : s.tables.origin ≠ .loading
  running : s.engine.restart = none
  place : s.places.resp1 = none

/-- The arrival of a request that is taken at once: the Body Port counts it (R48), its run counter is 0 (R40), and the
buffer it passed through is the last filled (R163). -/
def tookRequest (s : State) : State :=
  { s with
    body := { s.body with run := 0, arrivals := s.body.arrivals + 1, mgmtArrivals := s.body.mgmtArrivals + 1 }
    engine := { s.engine with lastFilled := if s.engine.lastFilled = .x then .y else .x } }

/-- The response with these eight bytes stands in a RESPONSE place (R166); the other place, if occupied, was filled earlier
(R38). -/
def answeredIn (place : RespPlace) (data : List Byte) (s : State) : State :=
  let f : LocalFrame := ⟨⟨.extended, .data, 0x0C5AA180 + s.straps.node.setWidth 29, 8, data⟩, 0, false⟩
  match place with
  | .first =>
    { s with places := { s.places with
      resp1 := some f, respOlder := if s.places.resp2.isSome then .second else .first } }
  | .second =>
    { s with places := { s.places with
      resp2 := some f, respOlder := if s.places.resp1.isSome then .first else .second } }

/-- The response stands in the first RESPONSE place. -/
def answered (data : List Byte) (s : State) : State := answeredIn .first data s

/-- The result of a request served at its arrival with an answer and no other effect. -/
def answers (data : List Byte) (s : State) : State := answered data (tookRequest s)

/-- The counter groups in the order of their codes, each with its counters in the order of their numbers (R48, R49, R170,
R181). -/
def counterGroups (s : State) : List (List Count) :=
  let port (r : PortRec) : List Count :=
    [r.arrivals, r.mgmtArrivals, r.localTransmitted, r.forwardedTransmitted, r.failedAttempts, r.localAbandoned,
     r.busFaults]
  let queue (u : Queue) : List Count :=
    [u.entered, u.transmitted, u.superseded, u.droppedFull, u.droppedStopped, u.abandoned, u.flushed]
  [port s.chassis, port s.body, queue s.bc, queue s.cb, [], [s.engine.busyDropped]]

/-! ## Table fields by number (R183) -/

/-- The code of a yes or no, of BLOCK and of EXTENDED (R183). -/
def yesCode (b : Bool) : Nat := if b then 1 else 0

/-- The code of a byte order (R183). -/
def orderCode (o : ByteOrder) : Nat := yesCode (o = .highFirst)

/-- A numeric field with its range and its value (R183). -/
def number (low high : Int) (v : Nat) : FieldSpec × Int := (.num low high, v)

/-- A numeric field of signed values (R183). -/
def integer (low high v : Int) : FieldSpec × Int := (.num low high, v)

/-- An enumeration or set field of codes 0..n − 1 and its code (R183). -/
def coded (n code : Nat) : FieldSpec × Int := (.enum n, code)

/-- The header's fields, each with what it takes and its value as a number (R183, table 0). -/
def headerRow (h : Header) : List (FieldSpec × Int) :=
  [coded 2 (yesCode (h.chassisDefault = .block)), coded 2 (yesCode (h.bodyDefault = .block)),
   number 0 100 h.statusPeriod, number 0 100 h.levelPeriod]

/-- The four fields of an extractor (R183, table 1). -/
def extractorRow (x : Extractor) : List (FieldSpec × Int) :=
  [number 0 31 x.slot.val, number 0 63 x.field.start, number 1 16 x.field.width,
   coded 2 (orderCode x.field.order)]

/-- The fields 0 to 20 of an FCT entry (R183, table 1). -/
def fctRow (e : FctEntry) : List (FieldSpec × Int) :=
  let ports : Nat :=
    match e.ports with
    | .chassis => 0 | .body => 1 | .both => 2
  let action : Nat :=
    match e.action with
    | .pass => 0 | .block => 1 | .tap => 2 | .sink => 3 | .clamp => 4 | .rangeGuard => 5
  [coded 2 (yesCode e.enabled), coded 3 ports, coded 2 (yesCode (e.format = .extended)),
   number 0 (2 ^ 29 - 1) e.base.toNat, number 0 (2 ^ 29 - 1) e.mask.toNat,
   coded 32 e.modes.toNat, coded 6 action, coded 2 (yesCode e.latestOnly),
   number 0 63 e.edit.start, number 1 16 e.edit.width, coded 2 (orderCode e.edit.order),
   number 1 65535 e.fullScale, number 0 2 e.extCount]
  ++ extractorRow e.ext0 ++ extractorRow e.ext1

/-- The fields of a Signal Definition (R183, table 2). -/
def sdtRow (d : SlotDef) : List (FieldSpec × Int) :=
  [number 0 65535 d.gain, integer (-32768) 32767 d.offset, integer (-32768) 32767 d.plausMin,
   integer (-32768) 32767 d.plausMax, (.freshness, (d.freshness : Int)), number 1 64 d.errorStep, number 0 255 d.holdTime]

/-- The one field of a role's binding, 255 for UNBOUND (R183, table 3). -/
def roleRow (bound : Option (Fin 32)) : List (FieldSpec × Int) :=
  [(.binding, match bound with
    | some i => (i.val : Int)
    | none => 255)]

/-- The interlock parameters (R183, table 4). -/
def paramRow (p : Params) : List (FieldSpec × Int) :=
  [number 0 100 p.stationary, number 0 200 p.creepLimit, number 0 5000 p.creepTime, number 300 2000 p.engageMax,
   number 0 255 p.neutral, number 0 255 p.pumpRange, number 1 4 p.rollSize]
  ++ p.rollCodes.toList.map (fun c => number 0 255 c)
  ++ [number 0 4095 p.tA, number 0 4095 p.tB, number 0 4095 p.tC, number 0 4095 p.tD1,
   number 0 1000 p.pumpMax, number 0 1000 p.rollMax, number 0 300 p.rollSpeedLimit, number 0 1000 p.protCeiling,
   integer (-100) 1000 p.intakeMin, number 0 1000 p.riseStep, number 0 255 p.period]

/-- The lockout template (R183, table 5). -/
def templateRow (t : Template) : List (FieldSpec × Int) :=
  [number 0 (2 ^ 29 - 1) t.ident.toNat, coded 2 (yesCode (t.format = .extended)), number 1 8 t.length]
  ++ t.data.toList.map (fun x => number 0 255 x.toNat)
  ++ [number 0 63 t.lockStart, number 2 4 t.lockWidth, coded 2 (orderCode t.lockOrder),
   number 0 63 t.rangeStart, coded 2 (orderCode t.rangeOrder)]

/-- The fields of a compartment entry (R183, table 6). -/
def compRow (c : CompEntry) : List (FieldSpec × Int) :=
  [coded 2 (yesCode c.enabled), coded 2 (yesCode c.feedsPump), number 100 3000 c.height, number 1 3 c.senderCount]
  ++ c.senders.toList.flatMap (fun x => [number 0 31 x.slot.val, integer (-500) 500 x.offset])
  ++ [number 2 16 c.strapCount, number 0 7 c.kStill, number 0 7 c.kMoving, number 0 1000 c.lowThreshold,
   number 0 200 c.hysteresis, number 0 65535 c.emptyVolume, number 0 600 c.holdTime]

/-- The fields of one entry of a bank, in the order of their numbers: by table code and index, and none where the index is
beyond the table (R183). -/
def fieldRow (b : Bank) (table index : Nat) : List (FieldSpec × Int) :=
  let only {α : Type} (a : α) : Option α := if index = 0 then some a else none
  let m := b.roles
  match table with
  | 0 => ((only b.header).map headerRow).getD []
  | 1 => (b.fct[index]?.map fctRow).getD []
  | 2 => (b.sdt[index]?.map sdtRow).getD []
  | 3 => ([m.roadSpeed, m.engineSpeed, m.currentRange, m.modeRequest, m.intakePressure][index]?.map roleRow).getD []
  | 4 => ((only b.params).map paramRow).getD []
  | 5 => ((only b.template).map templateRow).getD []
  | 6 => (b.comps[index]?.map compRow).getD []
  | 7 => (b.straps[index]?.map fun x => [number 0 3000 x.h, number 0 65535 x.v]).getD []
  | _ => []

/-- What a READ_TABLE of a field answers (R18, R149): the bank's value; for the hit count of an FCT entry, field 21, the count
kept beside the Active bank, and 0 for the Shadow bank. -/
def readValue (m : TableMemory) (shadow : Bool) (table index field : Nat) : Option Int :=
  if table = 1 ∧ field = 21 then
    m.hits[index]?.map fun n => if shadow then 0 else (n : Int)
  else ((fieldRow (if shadow then m.shadow else m.active) table index)[field]?).map (·.2)

/-! ## Validation (R154, R155) -/

/-- The byte-order constraints of a field (R2). -/
abbrev GoodGeometry (f : Field) : Prop :=
  (f.order = .lowFirst ∧ f.start + f.width ≤ 64)
  ∨ (f.order = .highFirst ∧ f.start % 8 = 0 ∧ (f.width = 8 ∨ f.width = 16))

/-- A failed check as its number, its table and its index (R154, R183), where a condition holds. -/
def failIf (bad : Prop) [Decidable bad] (check table index : Nat) : List (Nat × Nat × Nat) :=
  if bad then [(check, table, index)] else []

/-- The failures of an FCT entry in order (R155 step 1). -/
def entryFailures (e : FctEntry) (i : Nat) : List (Nat × Nat × Nat) :=
  failIf (e.format = .standard ∧ ∃ k ∈ List.range 29, 11 ≤ k ∧ e.base.getLsbD k = true ∧ e.mask.getLsbD k = false) 2 1 i
  ++ failIf ((e.action = .clamp ∧ ¬GoodGeometry e.edit)
      ∨ (e.action = .rangeGuard ∧ ¬(GoodGeometry e.edit ∧ e.edit.width = 8))) 1 1 i
  ++ failIf (e.action = .clamp ∧ ¬e.fullScale < 2 ^ e.edit.width - 1) 3 1 i
  ++ failIf (∃ x ∈ [e.ext0, e.ext1].take e.extCount, ¬GoodGeometry x.field) 1 1 i

/-- The failures of the role map in order (R155 step 3). -/
def roleFailures (m : RoleMap) : List (Nat × Nat × Nat) :=
  let bound (i : Nat) : Option (Fin 32) :=
    [m.roadSpeed, m.engineSpeed, m.currentRange, m.modeRequest, m.intakePressure].getD i none
  (List.range 5).flatMap fun i =>
    failIf (i < 4 ∧ bound i = none) 5 3 i ++ failIf ((bound i).isSome ∧ ∃ j < i, bound j = bound i) 4 3 i

/-- The failure of the lockout template (R123, R155 step 5). -/
def templateFailures (t : Template) : List (Nat × Nat × Nat) :=
  let lock : Field := ⟨t.lockStart, t.lockWidth, t.lockOrder⟩
  let range : Field := ⟨t.rangeStart, 8, t.rangeOrder⟩
  failIf (¬(GoodGeometry lock ∧ GoodGeometry range ∧ WithinData lock t.length ∧ WithinData range t.length
    ∧ ∀ n ∈ lock.bits, n ∉ range.bits)) 12 5 0

/-- The failures of an enabled compartment in the order of R127; n points are in use. -/
def compFailures (b : Bank) (c : Fin 4) : List (Nat × Nat × Nat) :=
  let e := b.comps[c]
  let points := (b.straps.toList.drop (16 * c.val)).take e.strapCount
  let n := points.length
  let h (i : Nat) : Nat := (points.getD i ⟨0, 0⟩).h
  let v (i : Nat) : Nat := (points.getD i ⟨0, 0⟩).v
  if e.enabled then
    failIf (¬((e.senders.toList.take e.senderCount).map (·.slot)).Nodup) 10 6 c.val
    ++ failIf (1000 < e.lowThreshold + e.hysteresis) 11 6 c.val
    ++ ((List.range n).filter fun i => 1 ≤ i ∧ (h i ≤ h (i - 1) ∨ v i < v (i - 1))).map (fun i => (8, 7, c.val * 16 + i))
    ++ failIf (e.height < h (n - 1)) 8 7 (c.val * 16 + n - 1)
    ++ failIf (v (n - 1) = 0) 9 7 (c.val * 16 + n - 1)
  else []

/-- Every failure of a bank in the order of R155, of which validation reports the first: check number, table and index. -/
def failures (b : Bank) : List (Nat × Nat × Nat) :=
  (List.finRange 48).flatMap (fun i => entryFailures b.fct[i] i.val)
  ++ (List.finRange 32).flatMap (fun i => failIf (b.sdt[i].plausMax < b.sdt[i].plausMin) 11 2 i.val)
  ++ roleFailures b.roles
  ++ failIf (b.params.pumpRange = b.params.neutral) 6 4 0
  ++ failIf (b.params.neutral ∉ b.params.rollCodes.toList.take b.params.rollSize) 7 4 0
  ++ templateFailures b.template
  ++ (List.finRange 4).flatMap (compFailures b)

/-! ## The causes (R175) -/

/-- The table of causes with their codes and severities (R175). -/
def causeTable : List (Nat × Cause × Severity) :=
  [(1, .engageRefused, .note), (2, .requestRefused, .note), (3, .phaseATimeout, .major), (4, .phaseBTimeout, .major),
   (5, .phaseCTimeout, .major), (6, .engageAborted, .minor), (7, .throttleDownTimeout, .minor),
   (8, .neutralTimeout, .major), (9, .releaseTimeout, .critical), (10, .parkReleasedPumping, .minor),
   (11, .creepDetected, .major), (12, .feedbackMismatch, .major), (13, .rollOverspeed, .minor),
   (14, .speedAbsentRolling, .minor), (15, .signalLost, .minor), (16, .tankUnknown, .minor),
   (17, .tankProtection, .note), (18, .queueOverflow, .minor), (19, .transmitAbandoned, .minor),
   (20, .portBusFault, .major), (21, .activationRefused, .note), (22, .storeFailed, .major), (23, .imageInvalid, .major),
   (24, .restarted, .note)]

/-! ## A bank taken into force (R157, R160) -/

/-- The neighbours' parts when a bank has come into force, in coherent states: hit counts, slots and compartments start
afresh, a level report is placed, the seeded flag and the last request taken are cleared, and the status timer takes the new
period. From UNLOADED the part enters ROAD with the ceiling at 1000, and the mismatch test reports each active feedback,
MAIN_FB first (R103, R104, R157; the reports carry ROAD: notes/assumptions/7.md). -/
def bankTaken (bank : Bank) (s : State) : State :=
  let comps := startComps bank
  let words := wordBits comps[0] ++ wordBits comps[1] ++ wordBits comps[2] ++ wordBits comps[3]
  let frame : Frame := ⟨.extended, .data, 0x0C5AA1D0 + s.straps.node.setWidth 29, 8, words⟩
  let main := s.ctl.mainFb.active
  let aux := s.ctl.auxFb.active
  let wrong := main || aux
  let one := if main then s.faults.take .feedbackMismatch (some 0) .road s.clock else s.faults
  let two := if aux then one.take .feedbackMismatch (some 1) .road s.clock else one
  let entering : Bool := s.ctl.app = .unloaded
  { s with
    slots := startSlots bank
    tank := ⟨comps, periodLoad bank.header.levelPeriod⟩
    tables := { s.tables with hits := Vector.replicate 48 0 }
    places := { s.places with level := generated s.body .level frame s.places.level }
    engine := { s.engine with statusTimer := periodLoad bank.header.statusPeriod }
    ctl :=
      if entering then
        { s.ctl with
          seeded := false, lastReq := none, app := .road, mismatch := wrong
          lamp := if wrong then .flash else .off, lampHigh := wrong, flash := if wrong then some 500 else none }
      else { s.ctl with seeded := false, lastReq := none }
    faults := if entering then two else s.faults }

end Sys2Proof.Safety
end

