-- ==== Sys2Proof/Certificates/Slice0/Obligations.lean ====
section
/-! DEFINITION. The statements for the provers. `.next` with a record update states the frame as well: every field that the
update does not name is unchanged. -/

open Sys2Proof Sys2Proof.Machine Sys2Proof.Safety

/-! ## Steps, resets and the clock -/

/-- A step takes the command at the front of the queue and executes it with the queue's rest; every command answers a next
state, none stops the part. That the part idles on an empty queue is the model's choice (notes/assumptions/9.md). -/
def Obligations.StepRunsTheFrontCommand : Prop :=
  (∀ (c : Instr) (rest : List Instr) (s : State),
    step { s with pending := c :: rest } = exec c { s with pending := rest })
  ∧ (∀ (c : Instr) (s : State), ∃ t, exec c s = .next t)
  ∧ ∀ s : State, s.pending = [] → step s = .next s

/-- In the reset state every law that the last statements of this file say every step keeps holds. State.reset is the
model's choice of pins, straps and Image Store (notes/assumptions/4.md). -/
def Obligations.ResetMeetsTheLaws : Prop :=
  SlotsCoherent State.reset ∧ QueuesCoherent State.reset ∧ DriveCoherent State.reset ∧ TablesCoherent State.reset
    ∧ RangeAllowed State.reset ∧ PortsCoherent State.reset ∧ EngineCoherent State.reset

/-- A power reset and a pin reset leave the same state: straps read, banks and fault record cleared, the marker read, and
every block started (R160, R180). `freeNext`, the value of `ret` and that of `respOlder` are the model's
(notes/assumptions/5.md, 16.md); so is that the pins keep their levels (notes/assumptions/20.md). -/
def Obligations.PowerAndPinResetStartEveryBlock : Prop :=
  ∀ (straps : Straps) (s : State),
    let marker := s.tables.store.marker
    let t : State := { State.reset with
      pending := s.pending
      straps := straps
      ctl := startCtl s.ctl .unloaded
      tables := { State.reset.tables with
        store := s.tables.store, marker := marker, origin := if marker then .loading else .cleared }
      faults :=
        if marker then ⟨none, 0⟩
        else ⟨some ⟨.major, .imageInvalid, none, .unloaded, 0, 0⟩, 1#24 <<< 22⟩
      freeNext := s.freeNext }
    exec (.powerReset straps) s = .next t ∧ exec (.pinReset straps) s = .next t

/-- The soft reset at the success of the RESTART's response, or at the expiry of its 50 ms countdown (R174): the state
follows the table origin, the banks, the store, the straps and the fault record are kept, and RESTARTED is reported last,
at Frame Clock 0. The value of `ret` and that of `respOlder` are the model's (notes/assumptions/16.md); so is that the pins
keep their levels (notes/assumptions/20.md). -/
def Obligations.RestartTakesTheSoftReset : Prop :=
  ∀ (s : State) (r : RestartPending) (c : Instr), s.engine.restart = some r →
    (c = .restartCountdownExpiry ∧ r.left = 0)
      ∨ (c = .attemptSuccess .body ∧ ∃ a, s.body.attempt = some a ∧ a.source = .response r.place) →
    let app : AppState :=
      if s.tables.origin = .loaded ∨ s.tables.origin = .activated then .road else .unloaded
    let bank := s.tables.active
    exec c s = .next { s with
      chassis := State.reset.chassis, body := State.reset.body, bc := State.reset.bc, cb := State.reset.cb
      places := State.reset.places
      clock := 0
      slots := startSlots bank
      ctl := startCtl s.ctl app
      ceil := State.reset.ceil
      tank := ⟨startComps bank, periodLoad bank.header.levelPeriod⟩
      tables := { s.tables with hits := Vector.replicate 48 0, storing := false }
      engine := { State.reset.engine with
        statusTimer := if app = .unloaded then some 1000 else periodLoad bank.header.statusPeriod }
      faults := s.faults.take .restarted none app 0 }

/-- One millisecond: the Frame Clock goes on by 1, every countdown that runs goes down by 1, and nothing else changes. That
a countdown at 0 waits there is the model's choice (notes/assumptions/1.md). -/
def Obligations.TickMovesClockAndCountdowns : Prop :=
  ∀ s : State,
    let down (t : Option Nat) : Option Nat := t.map (· - 1)
    let input (d : Debouncer) : Debouncer := { d with countdown := down d.countdown }
    exec .frameClockTick s = .next { s with
      clock := s.clock + 1
      chassis := { s.chassis with recovery := down s.chassis.recovery }
      body := { s.body with recovery := down s.body.recovery }
      slots := Vector.ofFn fun i => { s.slots[i] with
        freshness := down s.slots[i].freshness
        hold := match s.slots[i].hold with
          | .running n => .running (n - 1)
          | h => h }
      ctl := { s.ctl with
        phaseTimer := down s.ctl.phaseTimer, creep := down s.ctl.creep, flash := down s.ctl.flash
        park := input s.ctl.park, mainFb := input s.ctl.mainFb, auxFb := input s.ctl.auxFb }
      ceil := { s.ceil with timer := s.ceil.timer - 1, reassert := down s.ceil.reassert }
      tank :=
        { comps := Vector.ofFn fun c => { s.tank.comps[c] with
            hold := down s.tank.comps[c].hold, evalTimer := down s.tank.comps[c].evalTimer }
          report := down s.tank.report }
      engine := { s.engine with
        statusTimer := down s.engine.statusTimer
        restart := s.engine.restart.map fun r => { r with left := r.left - 1 } } }

/-- Of all commands the tick alone advances the Frame Clock; a reset and a RESTART set it to 0, the RESTART at its
countdown's expiry or at the success of its response (R68, R174). -/
def Obligations.OnlyTicksAdvanceTheClock : Prop :=
  ∀ (c : Instr) (s t : State), exec c s = .next t → c ≠ .frameClockTick →
    t.clock = s.clock
    ∨ (t.clock = 0 ∧ ((∃ x, c = .powerReset x ∨ c = .pinReset x) ∨ c = .restartCountdownExpiry
        ∨ (∃ p, c = .attemptSuccess p ∧ s.engine.restart.isSome)))

/-! ## Frame arrival -/

/-- A port in BUS_FAULT reports no arrival, and a STOPPED port none but the management requests of the Body Port: the frame
changes nothing (R41, R43). -/
def Obligations.SilentPortsTakeNoFrame : Prop :=
  ∀ (s : State) (p : Port) (f : Frame), f.wellFormed = true →
    ((s.port p).st = .busFault ∨ ((s.port p).st = .stopped ∧ s.diverts p f = false)) →
    exec (.frameArrival p f) s = .next s

/-- In UNLOADED a frame that is not diverted is counted and offered unaltered to the queue toward the other port: no
entry is tested, no hit counted and no slot updated (R7). A frame that matches no entry takes its port's default
action: with BLOCK it is counted and discarded, with PASS it is offered with action PASS (R13). -/
def Obligations.UnloadedFramesPassAndUnmatchedTakeTheDefault : Prop :=
  (∀ (s : State) (p : Port) (f : Frame), f.wellFormed = true → s.ctl.app = .unloaded → s.diverts p f = false →
    Receives s p →
    exec (.frameArrival p f) s = .next
      (takenBy (queueToward (otherPort p))
        ⟨f.ident, f.format, f.kind, min f.length 8, f.data, .none, false, none, none, 0⟩ (counted p s)))
  ∧ (∀ (s : State) (p : Port) (f : Frame) (cls : Nat), f.wellFormed = true → s.diverts p f = false → Receives s p →
    modeClass s.ctl.app = some cls → s.tables.active.search p cls f.format f.kind f.ident = none →
    exec (.frameArrival p f) s = .next
      (match p, s.tables.active.header.chassisDefault, s.tables.active.header.bodyDefault with
       | .chassis, .block, _ => counted p s
       | .body, _, .block => counted p s
       | .chassis, .pass, _ | .body, _, .pass =>
         takenBy (queueToward (otherPort p))
           ⟨f.ident, f.format, f.kind, min f.length 8, f.data, .pass, false, none, none, 0⟩ (counted p s)))

/-- The search finds the first entry, in index order, whose every condition holds, the identifier compared bit by bit
(R9, R10, R12); a remote frame matches none (R14). -/
def Obligations.SearchFindsTheFirstMatch : Prop :=
  ∀ (b : Bank) (p : Port) (cls : Nat) (format : Format) (kind : FrameKind) (ident : Ident),
    (∀ i : Fin 48, b.search p cls format kind ident = some i ↔
      Matches b.fct[i] p cls format kind ident ∧ ∀ j : Fin 48, j < i → ¬Matches b.fct[j] p cls format kind ident)
    ∧ (b.search p cls format kind ident = none ↔ ∀ j : Fin 48, ¬Matches b.fct[j] p cls format kind ident)
    ∧ b.search p cls format .remote ident = none

/-- A SINK frame whose extractor reads a good value counts a hit and updates its slot, in each status, and is not
forwarded (R16, R18, R61, R62); the slot here has no notifying role. Whatever the action, a frame that wins an entry counts a
hit; unless the action is BLOCK, each extractor in turn delivers its value or SHORT_FRAME to its slot; and PASS, TAP, CLAMP
and RANGE_GUARD offer the record that the entry gives, CLAMP and RANGE_GUARD where the data holds the whole edit field (R16,
R17, R18, R20, R22, R66). The bytes of a HIGH_FIRST field of a width other than 8 and 16, which no valid bank has, are the
model's choice (notes/assumptions/12.md). -/
def Obligations.MatchedFramesExtractAndForward : Prop :=
  (∀ (s : State) (p : Port) (f : Frame) (i : Fin 48) (x : Extractor) (eng : Int), SinkUpdate s p f i x eng →
    Unnotified s.tables.active.roles x.slot →
    exec (.frameArrival p f) s = .next (sunk p i x eng s))
  ∧ (∀ (s : State) (p : Port) (f : Frame) (i : Fin 48), Wins s p f i →
    let e := s.tables.active.fct[i]
    let hit : State := { counted p s with
      tables := { s.tables with hits := s.tables.hits.set i (min 65535 (s.tables.hits[i] + 1)) } }
    exec (.frameArrival p f) s = .next (forwardedBy p e f
      (if e.action = .block then hit
       else ([e.ext0, e.ext1].take e.extCount).foldl (extracted (min f.length 8) f.data) hit)))

/-- A good MODE_REQUEST update after which the slot is usable, the eighth of a recovery among them, hands over its value. A value
0..2 that differs from the last request taken is a request event: the value becomes the last request taken and is handled in
the state of that moment; a first value only seeds, and an equal one changes nothing. A value outside 0..2, and an update that
leaves the slot LOST, change nothing in the controller (R61, R62, R66, R81). Neither does any notification without a value, or
any value in UNLOADED (R81). -/
def Obligations.ModeRequestsSeedThenAct : Prop :=
  (∀ (s : State) (p : Port) (f : Frame) (i : Fin 48) (x : Extractor) (eng : Int), SinkUpdate s p f i x eng →
    s.tables.active.roles.modeRequest = some x.slot → s.tables.active.roles.roadSpeed ≠ some x.slot →
    s.tables.active.roles.engineSpeed ≠ some x.slot → s.tables.active.roles.currentRange ≠ some x.slot →
    let t := sunk p i x eng s
    (s.slots[x.slot].status = .lost → s.slots[x.slot].recovery < 7 → exec (.frameArrival p f) s = .next t)
    ∧ (eng < 0 ∨ 2 < eng → exec (.frameArrival p f) s = .next t)
    ∧ (s.slots[x.slot].status ≠ .lost ∨ 7 ≤ s.slots[x.slot].recovery →
      ∀ r : Request, (eng = match r with | .road => 0 | .pump => 1 | .roll => 2) →
      (s.ctl.seeded = false →
        exec (.frameArrival p f) s = .next { t with ctl := { s.ctl with seeded := true, lastReq := some r } })
      ∧ (s.ctl.seeded = true → s.ctl.lastReq = some r → exec (.frameArrival p f) s = .next t)
      ∧ (s.ctl.seeded = true → s.ctl.lastReq ≠ some r →
        exec (.frameArrival p f) s = .next (requestEvent r { t with ctl := { s.ctl with lastReq := some r } }))))
  ∧ ∀ s : State, notify .modeRequest none s = s
    ∧ (s.ctl.app = .unloaded → ∀ v : Option Int, notify .modeRequest v s = s)

/-- The intake holds two requests. While an ACTIVATE is in service a request is held in the buffer that was not filled last,
or in the empty one; it goes unserved until then. One that finds both buffers full is answered BUSY, or dropped and counted
where the BUSY place is occupied; the kind code and the tag found in the frame are echoed, 0 where it is too short. Of two
requests held, the older is served first, in the first free RESPONSE place (R163 to R165). -/
def Obligations.IntakeHoldsTwoAndAnswersBusy : Prop :=
  (∀ (s : State) (f : Frame), f.wellFormed = true → f.format = .extended →
    f.ident = 0x0C5AA100 + s.straps.node.setWidth 29 → s.body.st ≠ .busFault →
    let x := s.engine.bufX
    let y := s.engine.bufY
    let last := s.engine.lastFilled
    let g : Frame := { f with length := min f.length 8 }
    let t : State := { s with body := { s.body with
      run := 0, arrivals := s.body.arrivals + 1, mgmtArrivals := s.body.mgmtArrivals + 1 } }
    (s.engine.inService.isSome → x = none → last = .y ∨ y.isSome →
      exec (.frameArrival .body f) s = .next { t with engine := { s.engine with bufX := some g, lastFilled := .x } })
    ∧ (s.engine.inService.isSome → y = none → last = .x ∨ x.isSome →
      exec (.frameArrival .body f) s = .next { t with engine := { s.engine with bufY := some g, lastFilled := .y } })
    ∧ (x.isSome → y.isSome →
      exec (.frameArrival .body f) s = .next
        (if s.places.busy.isSome then { t with engine := { s.engine with busyDropped := s.engine.busyDropped + 1 } }
         else { t with places := { s.places with
           busy := some ⟨⟨.extended, .data, 0x0C5AA180 + s.straps.node.setWidth 29, 8,
             [(f.data.getD 0 0 &&& 0x0F) ||| 0x10, f.data.getD 1 0, 0, 0, 0, 0, 0, 0]⟩, 0, false⟩ } })))
  ∧ ∀ (s : State) (f g : Frame), s.engine.inService = none → s.engine.restart = none → s.tables.origin ≠ .loading →
    s.places.resp1 = none ∨ s.places.resp2 = none →
    let place : RespPlace := if s.places.resp1 = none then .first else .second
    (s.engine.bufX = some f → s.engine.bufY = some g → s.engine.lastFilled = .y →
      serveWaiting s = serveNext (serveRequest f place { s with engine := { s.engine with bufX := none } }))
    ∧ (s.engine.bufX = some g → s.engine.bufY = some f → s.engine.lastFilled = .x →
      serveWaiting s = serveNext (serveRequest f place { s with engine := { s.engine with bufY := none } }))

/-- A latest-only offer replaces the content of the first matching latest-only body record, which keeps its position,
its identifier and its attempt count of 0; the superseded count rises by 1, and nothing else of the state changes
(R28). The oldest body record moves into an empty output stage as it is, its attempt count with it (R29). -/
def Obligations.SupersedesAndMovesKeepTheOrder : Prop :=
  (∀ (q : QueueId) (s : State) (new old : FrameRecord) (before after : List FrameRecord),
    (s.port (destination q)).refusesFrames = false → (s.queue q).body = before ++ old :: after →
    new.latestOnly = true → old.latestOnly = true → old.ident = new.ident → old.format = new.format →
    (∀ r ∈ before, ¬Rivals r new) →
    offer q new s = s.setQueue q { s.queue q with
      body := before ++ { new with kind := old.kind, attempts := 0 } :: after
      superseded := (s.queue q).superseded + 1 })
  ∧ (∀ (q : QueueId) (s : State) (r : FrameRecord) (rest : List FrameRecord),
    (s.queue q).out = none → (s.queue q).body = r :: rest →
    exec (.queueMove q) s = .next (s.setQueue q { s.queue q with out := some r, body := rest }))

/-! ## Queues, local places and attempts -/

/-- A command whose event cannot occur as the state stands changes nothing, and a countdown expires only once it has come
down to 0. The manual does not speak of such commands: that they change nothing is the model's choice
(notes/assumptions/1.md, 2.md). -/
def Obligations.EventsThatCannotOccurChangeNothing : Prop :=
  ∀ s : State,
    (∀ q, (s.queue q).out.isSome ∨ (s.queue q).body = [] → exec (.queueMove q) s = .next s)
    ∧ (∀ p, (s.port p).attempt.isSome → exec (.attemptStart p) s = .next s)
    ∧ (∀ p, (s.port p).attempt = none → exec (.attemptSuccess p) s = .next s ∧ exec (.attemptFailure p) s = .next s
        ∧ exec (.arbitrationLoss p) s = .next s)
    ∧ (∀ p, (s.port p).recovery ≠ some 0 → exec (.recoveryTimerExpiry p) s = .next s)
    ∧ (∀ i, (s.ctl.input i).countdown ≠ some 0 → exec (.debouncedInputChange i) s = .next s)
    ∧ (∀ i : Fin 32, s.slots[i].freshness ≠ some 0 → exec (.freshnessExpiry i) s = .next s)
    ∧ (∀ i : Fin 32, s.slots[i].hold ≠ .running 0 → exec (.holdExpiry i) s = .next s)
    ∧ (s.ctl.phaseTimer ≠ some 0 → exec .phaseTimerExpiry s = .next s)
    ∧ (s.ctl.creep ≠ some 0 → exec .creepDetected s = .next s)
    ∧ (s.ceil.timer ≠ 0 → exec .ceilingTimerExpiry s = .next s)
    ∧ (s.ceil.reassert ≠ some 0 → exec .reassertionTimerExpiry s = .next s)
    ∧ (∀ c : Fin 4, s.tank.comps[c].evalTimer ≠ some 0 → exec (.evaluationTimerExpiry c) s = .next s)
    ∧ (∀ c : Fin 4, s.tank.comps[c].hold ≠ some 0 → exec (.holdCountdownExpiry c) s = .next s)
    ∧ (s.tank.report ≠ some 0 → exec .reportTimerExpiry s = .next s)
    ∧ (s.engine.statusTimer ≠ some 0 → exec .statusTimerExpiry s = .next s)
    ∧ (s.ctl.flash ≠ some 0 → exec .lampFlashToggle s = .next s)
    ∧ ((∀ r ∈ s.engine.restart, r.left ≠ 0) → exec .restartCountdownExpiry s = .next s)
    ∧ (s.engine.inService = none → exec .validationCompletion s = .next s ∧ ∀ b, exec (.storeEnd b) s = .next s)
    ∧ (s.tables.origin ≠ .loading → exec .powerUpLoadCompletion s = .next s)

/-- Frames generated for the LOCKOUT, STATUS and LEVEL places are discarded, wait or take the place (R36, R37). -/
def Obligations.GeneratedFramesTakeTheirPlace : Prop :=
  ∀ (f : Frame) (s : State),
    placeLockout f s
      = { s with places := { s.places with lockout := generated s.chassis .lockout f s.places.lockout } }
    ∧ placeStatus f s = { s with places := { s.places with status := generated s.body .status f s.places.status } }
    ∧ placeLevel f s = { s with places := { s.places with level := generated s.body .level f s.places.level } }

/-- At an attempt start the arbiter takes the first eligible frame in the port's order: the local places, then the output
stage; a record with no rewrite leaves as it arrived (R24, R31, R38). Which RESPONSE frame was placed earlier is read from
`respOlder`. Where nothing is eligible no attempt starts. -/
def Obligations.ArbiterTakesTheFirstEligibleFrame : Prop :=
  ∀ (s : State) (p : Port), (s.port p).attempt = none →
    (∀ before src after f, (s.port p).st ≠ .busFault → localOrder s p = before ++ src :: after →
      (∀ x ∈ before, s.places.at x = none) → s.places.at src = some f →
      exec (.attemptStart p) s = .next (s.setPort p { s.port p with attempt := some ⟨src, f.frame⟩ }))
    ∧ (∀ r, TakesOutput s p r → r.action = .pass ∨ r.action = .tap ∨ r.action = .none →
      exec (.attemptStart p) s = .next (s.setPort p { s.port p with
        attempt := some ⟨.output, ⟨r.format, r.kind, r.ident, r.length, r.data⟩⟩ }))
    ∧ ((s.port p).st = .busFault
        ∨ ((∀ x ∈ localOrder s p, s.places.at x = none)
          ∧ ((s.port p).st = .stopped ∨ (s.queue (queueToward p)).out = none)) →
      exec (.attemptStart p) s = .next s)

/-- A CLAMP record leaves with its field at the lower of the arrived value and floor(E × full scale / 1000), or at the
not-available pattern it arrived with; the state keeps the record as it arrived (R32, R115). -/
def Obligations.ClampLimitsItsField : Prop :=
  ∀ (s : State) (p : Port) (r : FrameRecord) (f : Field) (scale : Nat),
    TakesOutput s p r → r.action = .clamp → HoldsField r f → r.fullScale = some scale → 2 ≤ f.width →
    let arrived := readField f r.data
    ∃ a, exec (.attemptStart p) s = .next (s.setPort p { s.port p with attempt := some a })
      ∧ SentWith r f (if arrived = 2 ^ f.width - 1 then arrived else min arrived (s.ceil.e * scale / 1000)) a

/-- A RANGE_GUARD record leaves with the code that the apparatus state and phase give. In ROAD the last forwarded range
takes the arrived code; in ROLL it takes an allowed one, and where that is a new code a RESTRICT frame carrying it is
placed and the reassertion timer is loaded (R116, R117, R119, R120). -/
def Obligations.RangeGuardHoldsTheRange : Prop :=
  ∀ (s : State) (p : Port) (r : FrameRecord) (f : Field),
    TakesOutput s p r → r.action = .rangeGuard → HoldsField r f → f.width = 8 → s.ctl.app ≠ .unloaded →
    s.tables.active.params.neutral < 256 → s.tables.active.params.pumpRange < 256 → s.ceil.lastRange < 256 →
    let params := s.tables.active.params
    let code := readField f r.data
    let value :=
      match s.ctl.app with
      | .unloaded | .road => code
      | .mainEngaging => if s.ctl.phase = .c then params.pumpRange else params.neutral
      | .pump => params.pumpRange
      | .roll => if code ∈ params.rollSet then code else s.ceil.lastRange
      | .auxEngaging | .disengaging | .faultHold => params.neutral
    let t : State :=
      if s.ctl.app = .road then { s with ceil := { s.ceil with lastRange := code } }
      else if s.ctl.app = .roll ∧ code ∈ params.rollSet ∧ code ≠ s.ceil.lastRange then
        { s with
          ceil := { s.ceil with
            lastRange := code, content := .restrict
            reassert := some (if params.period = 0 then 4096 else params.period * 16) }
          places := { s.places with
            lockout := generated s.chassis .lockout (s.tables.active.template.form 3 code) s.places.lockout } }
      else s
    ∃ a, exec (.attemptStart p) s = .next (t.setPort p { s.port p with attempt := some a }) ∧ SentWith r f value a

/-- At a success the frame leaves, its counter counts and the run counter returns to 0; a port that is left drained while
QUIESCING stops, and a RESPONSE place that is freed lets a held request be served (R33, R37, R40, R42, R165). A lockout
success in phase A and the success of the response to a RESTART are the subject of other statements. An arbitration loss
changes no count: the frame stays where it is, and a waiting replacement takes its place (R35, R37). -/
def Obligations.SuccessesAndLossesEndAttempts : Prop :=
  ∀ (s : State) (p : Port) (a : Attempt), (s.port p).attempt = some a →
    let done : PortRec := { s.port p with attempt := none, run := 0 }
    let q := queueToward p
    let served (t : State) : State :=
      match a.source with
      | .response _ => serveWaiting t
      | .lockout | .busy | .status | .level | .output => t
    (a.source = .output →
      exec (.attemptSuccess p) s = .next (stopIfDrained p
        ((s.setPort p { done with forwardedTransmitted := done.forwardedTransmitted + 1 }).setQueue q
          { s.queue q with out := none, transmitted := (s.queue q).transmitted + 1 })))
    ∧ (a.source ≠ .output → (a.source = .lockout → s.ctl.phase ≠ .a) →
      (∀ pl, a.source = .response pl → ∀ r ∈ s.engine.restart, r.place ≠ pl) →
      exec (.attemptSuccess p) s = .next (served (stopIfDrained p
        { s.setPort p { done with localTransmitted := done.localTransmitted + 1 } with
          places := vacated (s.port p).refusesFrames s.places a.source })))
    ∧ exec (.arbitrationLoss p) s = .next
      { s.setPort p { s.port p with attempt := none } with
        places := kept (s.port p).refusesFrames s.places a.source }

/-- At a failure short of the bus fault the frame's attempt count rises by 1; at 8 the frame is abandoned, counted and
reported with the index of its queue or local place; no request is held in the intake here (R34, R37, R42). -/
def Obligations.FailuresCountAndAbandonAtEight : Prop :=
  ∀ (s : State) (p : Port) (a : Attempt), (s.port p).attempt = some a → (s.port p).run + 1 < 32 →
    let failed : PortRec := { s.port p with
      attempt := none, run := (s.port p).run + 1, failedAttempts := (s.port p).failedAttempts + 1 }
    let q := queueToward p
    let refused := (s.port p).refusesFrames
    (∀ r, a.source = .output → (s.queue q).out = some r →
      exec (.attemptFailure p) s = .next (stopIfDrained p
        (if r.attempts + 1 < 8 then
          (s.setPort p failed).setQueue q { s.queue q with out := some { r with attempts := r.attempts + 1 } }
        else
          report .transmitAbandoned (some (match q with | .bc => 0 | .cb => 1))
            ((s.setPort p failed).setQueue q
              { s.queue q with out := none, abandoned := (s.queue q).abandoned + 1 }))))
    ∧ (∀ f, s.places.at a.source = some f →
      ((∃ pl, a.source = .response pl) → s.engine.bufX = none ∧ s.engine.bufY = none) →
      exec (.attemptFailure p) s = .next (stopIfDrained p
        (if f.attempts + 1 < 8 then
          { s.setPort p failed with
            places := kept refused (s.places.setAt a.source (some { f with attempts := f.attempts + 1 })) a.source }
        else
          report .transmitAbandoned
            (some (match a.source with
              | .lockout => 2 | .response .first => 3 | .response .second => 4 | .busy => 5 | .status => 6
              | .level => 7 | .output => 8))
            { s.setPort p { failed with localAbandoned := failed.localAbandoned + 1 } with
              places := vacated refused s.places a.source })))

/-- The failure that brings the run counter to 32 puts the port into BUS_FAULT: counted, reported, the recovery timer at 1000
ms, the state of that moment its return state, a quiesce pending unless that is ACTIVE (R40). The attempt may be that of an
output-stage record or of a local frame, with no request held in the intake where that is a response. A frame abandoned by
the same failure is reported first: that order is the model's (notes/assumptions/6.md); so is the return state of a port that
this failure leaves drained (notes/assumptions/28.md). When the recovery timer runs out the port takes its return state, its
run counter at 0 and no quiesce pending; a port that returns to QUIESCING drained goes on to STOPPED (R41). -/
def Obligations.BusFaultComesAndPasses : Prop :=
  (∀ (s : State) (p : Port) (a : Attempt), (s.port p).attempt = some a → (s.port p).run = 31 →
    (s.port p).st ≠ .busFault →
    let q := queueToward p
    let refused := (s.port p).refusesFrames
    let downRec : PortRec := { s.port p with
      attempt := none, run := 32, failedAttempts := (s.port p).failedAttempts + 1, st := .busFault
      recovery := some 1000, ret := (s.port p).st, quiescePending := decide ((s.port p).st ≠ .active)
      busFaults := (s.port p).busFaults + 1 }
    let down : State := s.setPort p downRec
    let fault (t : State) : State := report .portBusFault (some (match p with | .chassis => 0 | .body => 1)) t
    (∀ r, a.source = .output → (s.queue q).out = some r →
      exec (.attemptFailure p) s = .next (fault
        (if r.attempts + 1 < 8 then
          down.setQueue q { s.queue q with out := some { r with attempts := r.attempts + 1 } }
        else
          report .transmitAbandoned (some (match q with | .bc => 0 | .cb => 1))
            (down.setQueue q { s.queue q with out := none, abandoned := (s.queue q).abandoned + 1 }))))
    ∧ (∀ f, s.places.at a.source = some f →
      ((∃ pl, a.source = .response pl) → s.engine.bufX = none ∧ s.engine.bufY = none) →
      exec (.attemptFailure p) s = .next (fault
        (if f.attempts + 1 < 8 then
          { down with
            places := kept refused (s.places.setAt a.source (some { f with attempts := f.attempts + 1 })) a.source }
        else
          report .transmitAbandoned
            (some (match a.source with
              | .lockout => 2 | .response .first => 3 | .response .second => 4 | .busy => 5 | .status => 6
              | .level => 7 | .output => 8))
            { s.setPort p { downRec with localAbandoned := downRec.localAbandoned + 1 } with
              places := vacated refused s.places a.source }))))
  ∧ (∀ (s : State) (p : Port), (s.port p).st = .busFault → (s.port p).recovery = some 0 →
    exec (.recoveryTimerExpiry p) s = .next (stopIfDrained p
      (s.setPort p { s.port p with st := (s.port p).ret, run := 0, recovery := none, quiescePending := false })))

/-- Every record that enters a queue leaves it once: at an arrival, a move and an attempt's start and end, with no
request held in the intake and no RESTART pending, the difference of the counters that R30 says is 0 stays as it is
(R30, R49). -/
def Obligations.QueueAccountsStayBalanced : Prop :=
  ∀ (s t : State) (c : Instr) (q : QueueId),
    (∃ p, c = .attemptSuccess p ∨ c = .attemptFailure p ∨ c = .arbitrationLoss p ∨ c = .attemptStart p)
      ∨ (∃ p f, c = .frameArrival p f) ∨ c = .queueMove q →
    s.engine.bufX = none → s.engine.bufY = none → s.engine.restart = none →
    (∀ p f, c = .frameArrival p f → s.diverts p f = false) →
    (∀ p a, (s.port p).attempt = some a → a.source = .output → (s.queue (queueToward p)).out.isSome) →
    exec c s = .next t → balance (t.queue q) = balance (s.queue q)

/-! ## Fields, signals and notifications -/

/-- Reading a field takes its value from the bit positions its byte order gives, bit n of the data being bit n mod 8 of
byte n div 8. Writing one places the bits of a value in the same positions and leaves every other data bit (R1, R2). -/
def Obligations.FieldsReadAndWriteTheirBits : Prop :=
  ∀ (f : Field) (d : List Byte), f.geometryOk = true →
    (∀ n, dataBit d n = (d.getD (n / 8) 0).getLsbD (n % 8))
    ∧ (f.order = .lowFirst → ∀ k, (readField f d).testBit k = (decide (k < f.width) && dataBit d (f.start + k)))
    ∧ (f.order = .highFirst → f.width = 8 → readField f d = (d.getD (f.start / 8) 0).toNat)
    ∧ (f.order = .highFirst → f.width = 16 →
        readField f d = 256 * (d.getD (f.start / 8) 0).toNat + (d.getD (f.start / 8 + 1) 0).toNat)
    ∧ ∀ v, f.fits d.length = true → v < 2 ^ f.width →
        readField f (writeField f v d) = v ∧ (writeField f v d).length = d.length
        ∧ ∀ n, n ∉ f.bits → dataBit (writeField f v d) n = dataBit d n

/-- A raw value is graded: the not-available pattern of its width is an error; else it is converted,
eng = floor(r × gain / 1024) + offset brought into −32768..32767, and good just within the plausible range. An error event
of any kind leaves the slot its value and timestamp, but for a value let go with hold time 0 (R54 to R56, R58). -/
def Obligations.GradingConvertsAndChecks : Prop :=
  ∀ (d : SlotDef) (r w : Nat),
    let eng : Int := max (-32768) (min 32767 (((r * d.gain / 1024 : Nat) : Int) + d.offset))
    d.grade .shortFrame = none
    ∧ (2 ≤ w → r = 2 ^ w - 1 → d.grade (.raw r w) = none)
    ∧ (w < 2 ∨ r ≠ 2 ^ w - 1 →
        d.grade (.raw r w) = if d.plausMin ≤ eng ∧ eng ≤ d.plausMax then some eng else none)
    ∧ ∀ x : Slot, 0 < d.holdTime → (x.takeError d).value = x.value ∧ (x.takeError d).stamp = x.stamp

/-- A freshness expiry is an error event: HC rises by the error step, the status follows, at 255 the slot is LOST with
its hold started and SIGNAL_LOST reported; a LOST slot only loses a recovery under way. The countdown is reloaded, and
the controller is notified of the slot's roles last (R57 to R60, R63, R66). At a hold expiry the value becomes absent
and the timestamp is kept; the controller is notified last (R63, R66). A slot bound to one notifying role notifies that role,
and one bound to none notifies nothing (R66). -/
def Obligations.FreshnessAndHoldExpiriesAgeASlot : Prop :=
  (∀ (s : State) (i : Fin 32), s.slots[i].freshness = some 0 →
    let d := s.tables.active.sdt[i]
    let x := s.slots[i]
    let y : Slot := { errorSlot d x with freshness := if d.freshness = 0 then none else some d.freshness }
    let t : State := { s with slots := s.slots.set i y }
    exec (.freshnessExpiry i) s = .next (notifyRoles i none
      (if x.status ≠ .lost ∧ y.status = .lost then report .signalLost (some i.val) t else t))
    ∧ (Unnotified s.tables.active.roles i → ∀ u : State, u.tables = s.tables → notifyRoles i none u = u))
  ∧ (∀ (s : State) (i : Fin 32), s.slots[i].hold = .running 0 →
    exec (.holdExpiry i) s = .next (notifyRoles i none
      { s with slots := s.slots.set i { s.slots[i] with value := none, hold := .expired } }))
  ∧ (∀ (s : State) (i : Fin 32) (v : Option Int) (r : Role), r ≠ .intakePressure →
    (∀ k, k ≠ .intakePressure → (s.tables.active.roles.get k = some i ↔ k = r)) → notifyRoles i v s = notify r v s)

/-- In ROLL a ROAD_SPEED notification, of a good update, an error or an expiry, sets the two roll flags from the present
value, and each flag newly set is reported; nothing else changes (R66, R97). The creep timer in PUMP: a ROAD_SPEED notification
starts it when the speed is usable and above the creep limit, leaves it running while that holds, and stops it otherwise (R95).
At its expiry CREEP_DETECTED is reported and the disengaging begins (R95, R98). In UNLOADED, ROAD, DISENGAGING and FAULT_HOLD the
notification changes nothing (R78, R102). -/
def Obligations.RoadSpeedIsWatchedInPumpAndRoll : Prop :=
  (∀ (s : State) (i : Fin 32) (w : Option Int), s.ctl.app = .roll → s.tables.active.roles.roadSpeed = some i →
    let limit : Int := s.tables.active.params.rollSpeedLimit
    let fast (o a : Bool) : State := { s with ctl := { s.ctl with overspeed := o, speedAbsent := a } }
    (s.slots[i].present = none → notify .roadSpeed w s =
      if s.ctl.speedAbsent then fast false true else report .speedAbsentRolling none (fast false true))
    ∧ (∀ v, s.slots[i].present = some v → v ≤ limit → notify .roadSpeed w s = fast false false)
    ∧ (∀ v, s.slots[i].present = some v → limit < v → notify .roadSpeed w s =
      if s.ctl.overspeed then fast true false else report .rollOverspeed none (fast true false)))
  ∧ (∀ (s : State) (i : Fin 32) (w : Option Int), s.ctl.app = .pump → s.tables.active.roles.roadSpeed = some i →
    let params := s.tables.active.params
    let creeps : Prop := ∃ v, s.slots[i].usable = some v ∧ (params.creepLimit : Int) < v
    (¬creeps → notify .roadSpeed w s = { s with ctl := { s.ctl with creep := none } })
    ∧ (creeps → s.ctl.creep.isSome → notify .roadSpeed w s = s)
    ∧ (creeps → s.ctl.creep = none → 0 < params.creepTime →
        notify .roadSpeed w s = { s with ctl := { s.ctl with creep := some params.creepTime } })
    ∧ (creeps → s.ctl.creep = none → params.creepTime = 0 →
        notify .roadSpeed w s = disengagingThrough (.cause .creepDetected) (report .creepDetected none s))
    ∧ (s.ctl.creep = some 0 →
        exec .creepDetected s = .next (disengagingThrough (.cause .creepDetected) (report .creepDetected none s))))
  ∧ ∀ (s : State) (w : Option Int),
    s.ctl.app = .unloaded ∨ s.ctl.app = .road ∨ s.ctl.app = .disengaging ∨ s.ctl.app = .faultHold →
    notify .roadSpeed w s = s

/-! ## Discrete inputs and the drive interlock -/

/-- A pin that comes to differ from its debounced level starts the 20 ms countdown, one that returns cancels it, one
that stays apart leaves it running. At its end the level takes the pin level, in the states that give the change no
further effect (R79, R93, R98, R104). At the end of each half period the PUMP_OK pin of a flashing lamp changes level
for another 500 ms (R106). -/
def Obligations.PinsAndLampFollowTheirCountdowns : Prop :=
  (∀ (s : State) (i : InputId),
    let d := s.ctl.input i
    (∀ low : Bool, exec (.discretePinChange i low) s = .next { s with ctl := (s.ctl.setInput i
      ⟨low, d.active, if low = d.active then none else if d.countdown = none then some 20 else d.countdown⟩) })
    ∧ (d.countdown = some 0 →
      s.ctl.app = .unloaded ∨ (i = .parkSw ∧ s.ctl.app ≠ .mainEngaging ∧ s.ctl.app ≠ .pump)
        ∨ (s.ctl.app = .disengaging ∧ s.ctl.phase ≠ .d3) →
      exec (.debouncedInputChange i) s = .next { s with ctl := s.ctl.setInput i ⟨d.pinLow, d.pinLow, none⟩ }))
  ∧ (∀ s : State, s.ctl.flash = some 0 →
    exec .lampFlashToggle s = .next { s with ctl := { s.ctl with lampHigh := !s.ctl.lampHigh, flash := some 500 } })

/-- In PUMP a release of PARK_SW sets the guard flag, flashes the lamp, is reported and brings the ceiling to 0 within
the event; PARK_SW active again clears the flag, shows ON and evaluates the ceiling (R94, R111). In ROAD a feedback
that becomes active sets the mismatch flag, flashes the lamp and is reported; a change that leaves both inactive clears
the flag and the lamp; nothing else changes (R103, R106). -/
def Obligations.InputsAreWatchedInPumpAndRoad : Prop :=
  (∀ s : State, s.ctl.app = .pump → s.ctl.park.countdown = some 0 →
    let low := s.ctl.park.pinLow
    let c := { s.ctl with park := ⟨low, low, none⟩ }
    let back : State := { s with ctl := { c with guard := false, lamp := .on, lampHigh := true, flash := none } }
    let away : State := report .parkReleasedPumping none { s with ctl := { c with
      guard := true, lamp := .flash, lampHigh := s.ctl.lampHigh || s.ctl.lamp ≠ .flash
      flash := if s.ctl.lamp = .flash then s.ctl.flash else some 500 } }
    (low = true → exec (.debouncedInputChange .parkSw) s = .next (evaluateCeiling back))
    ∧ (low = false → exec (.debouncedInputChange .parkSw) s = .next (evaluateCeiling away)
        ∧ (evaluateCeiling away).ceil.e = 0))
  ∧ (∀ (s : State) (i : InputId) (index : Nat), (i = .mainFb ∧ index = 0) ∨ (i = .auxFb ∧ index = 1) →
    s.ctl.app = .road → (s.ctl.input i).countdown = some 0 →
    let low := (s.ctl.input i).pinLow
    let c := s.ctl.setInput i ⟨low, low, none⟩
    exec (.debouncedInputChange i) s = .next
      (if low then
        report .feedbackMismatch (some index) { s with ctl := { c with
          mismatch := true, lamp := .flash, lampHigh := s.ctl.lampHigh || s.ctl.lamp ≠ .flash
          flash := if s.ctl.lamp = .flash then s.ctl.flash else some 500 } }
      else if c.mainFb.active = false ∧ c.auxFb.active = false then
        { s with ctl := { c with mismatch := false, lamp := .off, lampHigh := false, flash := none } }
      else { s with ctl := c }))

/-- Each violation of R89, R90, R93 and R96 is reported in the state left and begins the disengaging, which passes through the
phases that end at their entry (R76, R78, R98): a change of an input, and, while engaging, a ROAD_SPEED notification of any event
at which the speed is usable and above the stationary limit. A speed not usable, or at most the limit, changes nothing (R66, R89,
R93); nor, but for the debounced level, does a change of an input that violates nothing, ends no phase B and is not PARK_SW in
PUMP (R78, R90, R93, R96). -/
def Obligations.ViolationsBeginTheDisengaging : Prop :=
  ∀ s : State,
    (∀ i cause n, (s.ctl.input i).countdown = some 0 →
      violation s.ctl i (s.ctl.input i).pinLow = some (cause, n) →
      exec (.debouncedInputChange i) s = .next (disengagingThrough (.cause cause) (report cause (some n)
        { s with ctl := s.ctl.setInput i ⟨(s.ctl.input i).pinLow, (s.ctl.input i).pinLow, none⟩ })))
    ∧ (∀ i, (s.ctl.input i).countdown = some 0 → violation s.ctl i (s.ctl.input i).pinLow = none →
      s.ctl.app = .mainEngaging ∨ s.ctl.app = .auxEngaging ∨ s.ctl.app = .pump ∨ s.ctl.app = .roll →
      ¬(s.ctl.app = .pump ∧ i = .parkSw) → ¬(s.ctl.phase = .b ∧ i ≠ .parkSw ∧ (s.ctl.input i).pinLow = true) →
      exec (.debouncedInputChange i) s = .next
        { s with ctl := s.ctl.setInput i ⟨(s.ctl.input i).pinLow, (s.ctl.input i).pinLow, none⟩ })
    ∧ (∀ (i : Fin 32) (w : Option Int), s.ctl.app = .mainEngaging ∨ s.ctl.app = .auxEngaging →
      s.tables.active.roles.roadSpeed = some i →
      (∀ v, s.slots[i].usable = some v →
        notify .roadSpeed w s =
          if (s.tables.active.params.stationary : Int) < v then
            disengagingThrough (.cause .engageAborted) (report .engageAborted (some 2) s)
          else s)
      ∧ (s.slots[i].usable = none → notify .roadSpeed w s = s))

/-- The expiry of the phase timer in each phase: the cause reported and where the controller goes, through each phase that ends
at its entry (R77, R78, R99 to R102); FAULT_HOLD is left at its entry where the last request taken is ROAD, the feedbacks are
inactive and the range is neutral, and held otherwise. D1 ends at an ENGINE_SPEED notification once the engine is slow, D2 at a
CURRENT_RANGE notification once the range is neutral; in a phase that does not test the role, and in phase C while the range
is not the pump range, the notification changes nothing (R86, R88, R99, R100). The mismatch flag, which is clear outside ROAD,
is supposed clear where ROAD may be reached. -/
def Obligations.PhasesEndByTimeoutAndNotification : Prop :=
  (∀ s : State, s.ctl.phaseTimer = some 0 →
    (∀ cause, (s.ctl.phase = .a ∧ cause = .phaseATimeout) ∨ (s.ctl.phase = .b ∧ cause = .phaseBTimeout)
        ∨ (s.ctl.phase = .c ∧ cause = .phaseCTimeout) →
      exec .phaseTimerExpiry s = .next (disengagingThrough (.cause cause) (report cause none s)))
    ∧ (s.ctl.phase = .d1 → s.ctl.mismatch = false ∨ s.rangeNeutral = false →
      exec .phaseTimerExpiry s = .next (inD2 (report .throttleDownTimeout none s)))
    ∧ (s.ctl.phase = .d2 → s.ctl.mismatch = false ∨ s.feedbacksClear = false →
      exec .phaseTimerExpiry s = .next (inD3 (report .neutralTimeout none s)))
    ∧ (s.ctl.phase = .d3 → s.ctl.lamp = .off →
      let t := report .releaseTimeout none s
      let held := holdingNeutral { t with
        ctl := { s.ctl with
          app := .faultHold, phase := .none, origin := none, cause := some (.cause .releaseTimeout), phaseTimer := none
          mainShift := false, auxClutch := false, lamp := .flash, lampHigh := true, flash := some 500
          guard := false, creep := none, overspeed := false, speedAbsent := false, mismatch := false }
        ceil := { s.ceil with e := 0, protection := false } }
      exec .phaseTimerExpiry s = .next
        (if s.ctl.lastReq = some .road ∧ s.feedbacksClear = true ∧ s.rangeNeutral = true then backInRoad held else held)))
  ∧ (∀ (s : State) (v : Option Int),
    (s.ctl.phase = .d1 → s.ctl.mismatch = false ∨ s.rangeNeutral = false →
      notify .engineSpeed v s = if s.engineSlow then inD2 s else s)
    ∧ (s.ctl.phase = .d2 → s.ctl.mismatch = false ∨ s.feedbacksClear = false →
      notify .currentRange v s = if s.rangeNeutral then inD3 s else s)
    ∧ (s.ctl.phase ≠ .a → s.ctl.phase ≠ .d1 → notify .engineSpeed v s = s)
    ∧ (s.ctl.phase = .b ∨ s.ctl.phase = .d1 ∨ s.ctl.phase = .d3 → notify .currentRange v s = s)
    ∧ (s.ctl.phase = .c → s.usable .currentRange ≠ some (s.tables.active.params.pumpRange : Int) →
      notify .currentRange v s = s)
    ∧ (s.ctl.phase = .none → s.ctl.app ≠ .faultHold → notify .currentRange v s = s))

/-- The ways back to ROAD: D3 ends when a change leaves both feedbacks inactive, and stands at any other change of one, whether
it becomes active or inactive; FAULT_HOLD ends at a request, at a change of a feedback or at a CURRENT_RANGE notification once the
last request taken is ROAD, the feedbacks are inactive and the range is neutral, and stands at each of them otherwise; and with
the engine slow as well, the PHASE_A_TIMEOUT of an engagement passes through the whole disengaging within its event (R78, R101,
R102). Each places one NONE lockout frame and lets the ceiling rise by one step (R111, R112, R120). -/
def Obligations.RoadIsReachedAgain : Prop :=
  ∀ s : State, s.ctl.mismatch = false → s.ceil.content = .holdNeutral →
    let changed (i : InputId) : State :=
      { s with ctl := s.ctl.setInput i ⟨(s.ctl.input i).pinLow, (s.ctl.input i).pinLow, none⟩ }
    let ended (t : State) : Prop := t.ctl.lastReq = some .road ∧ t.feedbacksClear = true ∧ t.rangeNeutral = true
    (∀ i, s.ctl.app = .disengaging → s.ctl.phase = .d3 → i = .mainFb ∨ i = .auxFb → (s.ctl.input i).countdown = some 0 →
      exec (.debouncedInputChange i) s = .next
        (if (changed i).ctl.mainFb.active = false ∧ (changed i).ctl.auxFb.active = false then backInRoad (changed i)
         else changed i))
    ∧ (s.ctl.phaseTimer = some 0 → s.ctl.phase = .a → s.ctl.app = .mainEngaging ∨ s.ctl.app = .auxEngaging →
      s.engineSlow = true → s.rangeNeutral = true → s.feedbacksClear = true →
      let t := report .phaseATimeout none s
      exec .phaseTimerExpiry s = .next (backInRoad { t with ceil := { s.ceil with e := 0 } }))
    ∧ (s.ctl.app = .faultHold →
      (∀ r, (ended s → requestEvent r s = backInRoad s) ∧ (¬ended s → requestEvent r s = s))
      ∧ (∀ i, i = .mainFb ∨ i = .auxFb → (s.ctl.input i).countdown = some 0 →
        (ended (changed i) → exec (.debouncedInputChange i) s = .next (backInRoad (changed i)))
        ∧ (¬ended (changed i) → exec (.debouncedInputChange i) s = .next (changed i)))
      ∧ (∀ v, s.ctl.phase = .none →
        (ended s → notify .currentRange v s = backInRoad s) ∧ (¬ended s → notify .currentRange v s = s)))

/-- A PUMP or ROLL request in ROAD is refused at the first precondition that fails, in the order given, and reported
with its number; when all hold the engagement begins (R83, R84). The other requests, by the apparatus state: taken
without action, refused across the drives, or, for ROAD, the disengaging of cause OPERATOR, which passes through the phases
that end at their entry (R78, R82). -/
def Obligations.RequestsAreTakenOrRefused : Prop :=
  (∀ s : State, s.ctl.app = .road →
    let params := s.tables.active.params
    let still : Prop := ∃ v, s.usable .roadSpeed = some v ∧ v ≤ (params.stationary : Int)
    let slow : Prop := ∃ v, s.usable .engineSpeed = some v ∧ v ≤ (params.engageMax : Int)
    let neutral : Prop := s.usable .currentRange = some (params.neutral : Int)
    let released : Prop := s.ctl.mainFb.active = false ∧ s.ctl.auxFb.active = false
    let refused (n : Nat) : State := report .engageRefused (some n) s
    (s.ctl.park.active = false → requestEvent .pump s = refused 1)
    ∧ (s.ctl.park.active = true → ¬still → requestEvent .pump s = refused 2)
    ∧ (¬still → requestEvent .roll s = refused 2)
    ∧ (∀ r, (r = .pump ∧ s.ctl.park.active = true) ∨ r = .roll → still →
      (¬slow → requestEvent r s = refused 3)
      ∧ (slow → ¬neutral → requestEvent r s = refused 4)
      ∧ (slow → neutral → ¬released → requestEvent r s = refused 5)
      ∧ (slow → neutral → released → s.chassis.st ≠ .active → requestEvent r s = refused 6)
      ∧ (slow → neutral → released → s.chassis.st = .active →
        (r = .pump → requestEvent r s = enterPhaseA .mainEngaging s)
        ∧ (r = .roll → params.rollSpeedLimit = 0 → requestEvent r s = refused 7)
        ∧ (r = .roll → 0 < params.rollSpeedLimit → requestEvent r s = enterPhaseA .auxEngaging s)))
    ∧ ∀ app, app = .mainEngaging ∨ app = .auxEngaging →
      (enterPhaseA app s).ctl.app = app ∧ (enterPhaseA app s).ctl.phase = .a)
  ∧ (∀ s : State,
    (s.ctl.app = .road → requestEvent .road s = s)
    ∧ (s.ctl.app = .mainEngaging ∨ s.ctl.app = .pump →
      requestEvent .pump s = s ∧ requestEvent .roll s = report .requestRefused (some 2) s)
    ∧ (s.ctl.app = .auxEngaging ∨ s.ctl.app = .roll →
      requestEvent .roll s = s ∧ requestEvent .pump s = report .requestRefused (some 1) s)
    ∧ ((s.ctl.app = .mainEngaging ∨ s.ctl.app = .pump ∨ s.ctl.app = .auxEngaging ∨ s.ctl.app = .roll) →
      requestEvent .road s = disengagingThrough .operator s)
    ∧ (∀ r, s.ctl.app = .disengaging → requestEvent r s = s)
    ∧ (∀ r, s.ctl.app = .faultHold → s.ctl.lastReq ≠ some .road → requestEvent r s = s))

/-- Phase A of either engagement: HOLD_NEUTRAL, not yet the content, is named and its frame generated, T_A loaded, the
lockout not confirmed, the lockout frames held before marked as generated earlier, and the ceiling at 0 (R75, R86, R91,
R112, R120). -/
def Obligations.PhaseAHoldsTheTransmission : Prop :=
  ∀ (s : State) (app : AppState), app = .mainEngaging ∨ app = .auxEngaging → s.ceil.content ≠ .holdNeutral →
    let params := s.tables.active.params
    let old (f : Option LocalFrame) : Option LocalFrame := f.map fun x => { x with stale := true }
    enterPhaseA app s = { s with
      ctl := { s.ctl with
        app := app, phase := .a, phaseTimer := some (if params.tA = 0 then 40960 else params.tA * 10)
        confirmed := false, mainShift := false, auxClutch := false, lamp := .off, lampHigh := false, flash := none
        guard := false, creep := none, overspeed := false, speedAbsent := false, mismatch := false }
      ceil := { s.ceil with
        e := 0, protection := false, content := .holdNeutral
        reassert := some (if params.period = 0 then 4096 else params.period * 16) }
      places := { s.places with lockout := (generated s.chassis .lockout
        (s.tables.active.template.form 1 params.neutral)
        ⟨old s.places.lockout.cur, old s.places.lockout.waiting⟩) } }

/-- In phase A the success of a lockout frame generated since its entry confirms the lockout; with the range neutral and the
engine slow it enters phase B, asserts the drive output and loads T_B. A frame generated earlier confirms nothing
(R33, R86, R87, R91, R92). The three conditions are tested alike at each ENGINE_SPEED and CURRENT_RANGE notification, and
while one of them fails the notification changes nothing (R86, R91). Where the feedback of the drive is already active the phase
B that is entered ends at once (R78, R87, R92); what the entries into PUMP and ROLL then do in order is the model's reading
(notes/assumptions/17.md, 22.md). -/
def Obligations.PhaseAEndsOnItsThreeConditions : Prop :=
  (∀ (s : State) (a : Attempt) (f : LocalFrame), s.chassis.attempt = some a → a.source = .lockout →
    s.chassis.st = .active → s.places.lockout.cur = some f → s.ctl.phase = .a → s.ceil.content = .holdNeutral →
    let params := s.tables.active.params
    let sent : State := { s with
      chassis := { s.chassis with
        attempt := none, run := 0, localTransmitted := s.chassis.localTransmitted + 1 }
      places := { s.places with lockout := ⟨s.places.lockout.waiting, none⟩ } }
    let loadB := some (if params.tB = 0 then 40960 else params.tB * 10)
    (f.stale = true → s.ctl.confirmed = false → exec (.attemptSuccess .chassis) s = .next sent)
    ∧ (f.stale = false → ¬(s.rangeNeutral = true ∧ s.engineSlow = true) →
      exec (.attemptSuccess .chassis) s = .next { sent with ctl := { s.ctl with confirmed := true } })
    ∧ (f.stale = false → s.rangeNeutral = true → s.engineSlow = true →
      (s.ctl.app = .mainEngaging → s.ctl.mainFb.active = false →
        exec (.attemptSuccess .chassis) s = .next { sent with ctl := { s.ctl with
          confirmed := true, phase := .b, phaseTimer := loadB, mainShift := true } })
      ∧ (s.ctl.app = .mainEngaging → s.ctl.mainFb.active = true → s.ctl.guard = false → s.ctl.creep = none →
        exec (.attemptSuccess .chassis) s = .next (inMainC { sent with ctl := { s.ctl with
          confirmed := true, phase := .b, phaseTimer := loadB, mainShift := true } }))
      ∧ (s.ctl.app = .auxEngaging → s.ctl.auxFb.active = true → s.ctl.overspeed = false → s.ctl.speedAbsent = false →
        exec (.attemptSuccess .chassis) s = .next (inRoll { sent with ctl := { s.ctl with
          confirmed := true, phase := .b, phaseTimer := loadB, auxClutch := true } }))
      ∧ (s.ctl.app = .auxEngaging → s.ctl.auxFb.active = false →
        exec (.attemptSuccess .chassis) s = .next { sent with ctl := { s.ctl with
          confirmed := true, phase := .b, phaseTimer := loadB, auxClutch := true } })))
  ∧ ∀ (s : State) (r : Role) (v : Option Int), s.ctl.phase = .a → r = .engineSpeed ∨ r = .currentRange →
    let params := s.tables.active.params
    let loadB := some (if params.tB = 0 then 40960 else params.tB * 10)
    let done : Prop := s.ctl.confirmed = true ∧ s.rangeNeutral = true ∧ s.engineSlow = true
    (¬done → notify r v s = s)
    ∧ (done → s.ceil.content = .holdNeutral →
      (s.ctl.app = .mainEngaging → s.ctl.mainFb.active = false →
        notify r v s = { s with ctl := { s.ctl with phase := .b, phaseTimer := loadB, mainShift := true } })
      ∧ (s.ctl.app = .mainEngaging → s.ctl.mainFb.active = true → s.ctl.guard = false → s.ctl.creep = none →
        notify r v s = inMainC { s with ctl := { s.ctl with phase := .b, phaseTimer := loadB, mainShift := true } })
      ∧ (s.ctl.app = .auxEngaging → s.ctl.auxFb.active = true → s.ctl.overspeed = false → s.ctl.speedAbsent = false →
        notify r v s = inRoll { s with ctl := { s.ctl with phase := .b, phaseTimer := loadB, auxClutch := true } })
      ∧ (s.ctl.app = .auxEngaging → s.ctl.auxFb.active = false →
        notify r v s = { s with ctl := { s.ctl with phase := .b, phaseTimer := loadB, auxClutch := true } }))

/-- The last phases of an engagement: MAIN_FB active in phase B enters phase C with HOLD_PUMP placed and T_C loaded, ended at
once where the range is the pump range; a CURRENT_RANGE notification, of a good update or any other event, at which the range is
the pump range ends phase C: PUMP with the lamp ON, the ceiling evaluated and the creep condition tested; AUX_FB active in phase B
enters ROLL with the last forwarded range neutral, a RESTRICT frame carrying it, and the roll flags set and reported by the road
speed: present and at most the limit, present above it, or absent (R66, R78, R87, R88, R92, R94, R95, R97). The guard flag and the
creep timer, which run in PUMP alone, and the roll flags, which stand in ROLL alone, are supposed clear. That the flags' report
carries the state ROLL and comes before the evaluation of the ceiling is the model's reading (notes/assumptions/22.md); so is
that the creep test comes after it (notes/assumptions/17.md). -/
def Obligations.EngagementsReachTheirDrive : Prop :=
  ∀ s : State,
    (s.ctl.app = .mainEngaging → s.ctl.phase = .b → s.ctl.mainFb.countdown = some 0 → s.ctl.mainFb.pinLow = true →
      s.ceil.content = .holdNeutral → s.ctl.guard = false → s.ctl.creep = none →
      exec (.debouncedInputChange .mainFb) s = .next (inMainC { s with ctl := { s.ctl with mainFb := ⟨true, true, none⟩ } }))
    ∧ (∀ w : Option Int, s.ctl.app = .mainEngaging → s.ctl.phase = .c →
      s.usable .currentRange = some (s.tables.active.params.pumpRange : Int) → s.ceil.content = .holdPump →
      s.ctl.guard = false → s.ctl.creep = none →
      notify .currentRange w s = inPump s)
    ∧ (s.ctl.app = .auxEngaging → s.ctl.phase = .b → s.ctl.auxFb.countdown = some 0 → s.ctl.auxFb.pinLow = true →
      s.ceil.content = .holdNeutral → s.ctl.overspeed = false → s.ctl.speedAbsent = false →
      exec (.debouncedInputChange .auxFb) s = .next (inRoll { s with ctl := { s.ctl with auxFb := ⟨true, true, none⟩ } }))

/-! ## Throttle ceiling, lockout and pump protection -/

/-- The pump protection condition: PUMP or ROLL; every enabled, feeding compartment that is VALID or HELD is EMPTY, and
there is one; and no usable intake pressure at or above the intake minimum (R140). -/
def Obligations.PumpProtectionNeedsItsThreeConditions : Prop :=
  ∀ s : State,
    let takesPart (c : Fin 4) : Prop :=
      s.tables.active.comps[c].enabled = true ∧ s.tables.active.comps[c].feedsPump = true
      ∧ (s.tank.comps[c].validity = .valid ∨ s.tank.comps[c].validity = .held)
    s.protectionHolds = true ↔
      (s.ctl.app = .pump ∨ s.ctl.app = .roll)
      ∧ ((∃ c, takesPart c) ∧ ∀ c, takesPart c → s.tank.comps[c].band = .empty)
      ∧ ¬∃ i v, s.tables.active.roles.intakePressure = some i
          ∧ (s.slots[i].status = .healthy ∨ s.slots[i].status = .suspect) ∧ s.slots[i].value = some v
          ∧ s.tables.active.params.intakeMin ≤ v

/-- At the ceiling timer's expiry the timer is reloaded, T is the least of the five contributions, a fall of E is taken
whole and a rise by one step, and the onset of pump protection is reported (R107, R109 to R112). -/
def Obligations.CeilingMovesTowardItsTarget : Prop :=
  ∀ s : State, s.ceil.timer = 0 →
    let params := s.tables.active.params
    let base : Nat :=
      match s.ctl.app with
      | .unloaded | .road => 1000
      | .pump => params.pumpMax
      | .roll => params.rollMax
      | .mainEngaging | .auxEngaging | .disengaging | .faultHold => 0
    let target :=
      if s.ctl.guard ∨ s.ctl.overspeed ∨ s.ctl.speedAbsent then 0
      else if s.protectionHolds then min base (min params.protCeiling 1000) else min base 1000
    let step := if params.riseStep = 0 then 1000 else params.riseStep
    let t : State := { s with ceil := { s.ceil with
      timer := 100, protection := s.protectionHolds
      e := if target < s.ceil.e then target else min target (s.ceil.e + step) } }
    exec .ceilingTimerExpiry s = .next
      (if s.protectionHolds = true ∧ s.ceil.protection = false then report .tankProtection none t else t)

/-- A lockout frame of a template that passes validation carries its code in the lock-state field and its range in the range
field, and every other data bit is the template's (R119, R122, R123). That a STANDARD template's identifier above 2047 leaves
whole is the model's choice (notes/assumptions/26.md). -/
def Obligations.LockoutFramesCarryCodeAndRange : Prop :=
  ∀ (t : Template) (lock range : Nat), checkTemplate t = none → t.length ≤ 8 → 2 ≤ t.lockWidth → lock < 4 → range < 256 →
    let f := t.form lock range
    f.format = t.format ∧ f.kind = .data ∧ f.ident = t.ident ∧ f.length = t.length ∧ f.data.length = t.length
    ∧ readField t.lockField f.data = lock ∧ readField t.rangeField f.data = range
    ∧ ∀ n < 8 * t.length, n ∉ t.lockField.bits → n ∉ t.rangeField.bits →
        dataBit f.data n = dataBit t.data.toList n

/-- At the reassertion timer's expiry a frame for the content in force is formed afresh and placed, and the timer is loaded
with P × 16 ms, or 4096 ms for P = 0 (R119 to R122). -/
def Obligations.ReassertionPlacesTheContentAfresh : Prop :=
  ∀ s : State, s.ceil.reassert = some 0 →
    let params := s.tables.active.params
    (∀ lock range, (s.ceil.content = .holdNeutral ∧ lock = 1 ∧ range = params.neutral)
        ∨ (s.ceil.content = .holdPump ∧ lock = 2 ∧ range = params.pumpRange)
        ∨ (s.ceil.content = .restrict ∧ lock = 3 ∧ range = s.ceil.lastRange) →
      exec .reassertionTimerExpiry s = .next { s with
        ceil := { s.ceil with reassert := some (if params.period = 0 then 4096 else params.period * 16) }
        places := { s.places with
          lockout := generated s.chassis .lockout (s.tables.active.template.form lock range) s.places.lockout } })
    ∧ (s.ceil.content = .notEmitting → exec .reassertionTimerExpiry s = .next s)

/-! ## Tank gauging -/

/-- An evaluation with usable senders: their levels, corrected and brought into 0..H, are combined to the mean rounded half
up; the filter moves, the volume, fill and band follow, the hold ends, and the compartment is VALID. A change of band or
validity places a level report (R129 to R131, R134, R135, R137, R138, R143). -/
def Obligations.EvaluationMeasuresTheCompartment : Prop :=
  ∀ (s : State) (c : Fin 4), s.tank.comps[c].evalTimer = some 0 → s.tank.comps[c].validity ≠ .disabled →
    let e := s.tables.active.comps[c]
    let x := s.tank.comps[c]
    let levels := usableLevels e s.slots
    levels ≠ [] →
    let l := (levels.sum + levels.length / 2) / levels.length
    let moving : Prop := ∃ v, s.present .roadSpeed = some v ∧ (s.tables.active.params.stationary : Int) < v
    ∀ k, (moving → k = e.kMoving) → (¬moving → k = e.kStill) →
    let f16 := filtered x.f16 l k
    let lf := (f16 + 8) / 16
    let points := s.tables.active.strapList c
    let v := strapVolume points lf
    let p := v * 1000 / lastVolume points
    let band : Band :=
      if v ≤ e.emptyVolume then .empty
      else if x.band = .low ∨ x.band = .empty then
        if p < e.lowThreshold + e.hysteresis then .low else .normal
      else if p ≤ e.lowThreshold then .low else .normal
    let y : CompRec := ⟨.valid, band, some f16, lf, v, p, none, some 100⟩
    let t : State := { s with tank := { s.tank with comps := s.tank.comps.set c y } }
    exec (.evaluationTimerExpiry c) s = .next (if band = x.band ∧ x.validity = .valid then t else levelReport t)

/-- An evaluation without a usable sender: VALID becomes HELD for the hold time, or UNKNOWN at once for hold time 0; HELD and
UNKNOWN stand. The expiry of the hold makes HELD UNKNOWN. UNKNOWN holds no figures and is reported, and a change places a
level report (R132, R133, R143). -/
def Obligations.SenderGapsAreHeldThenUnknown : Prop :=
  ∀ (s : State) (c : Fin 4),
    let x := s.tank.comps[c]
    let time := s.tables.active.comps[c].holdTime
    let put (y : CompRec) : State := { s with tank := { s.tank with comps := s.tank.comps.set c y } }
    let unknown (timer : Option Nat) : State :=
      levelReport (report .tankUnknown (some c.val) (put ⟨.unknown, .none, none, 0, 0, 0, none, timer⟩))
    (x.evalTimer = some 0 → usableLevels s.tables.active.comps[c] s.slots = [] →
      (x.validity = .valid → 0 < time → exec (.evaluationTimerExpiry c) s = .next
        (levelReport (put { x with validity := .held, hold := some (time * 100), evalTimer := some 100 })))
      ∧ (x.validity = .valid → time = 0 → exec (.evaluationTimerExpiry c) s = .next (unknown (some 100)))
      ∧ (x.validity = .held ∨ x.validity = .unknown →
        exec (.evaluationTimerExpiry c) s = .next (put { x with evalTimer := some 100 })))
    ∧ (x.hold = some 0 → x.validity = .held → exec (.holdCountdownExpiry c) s = .next (unknown x.evalTimer))

/-- The filter state moves toward 16 × L, never passes it and comes closer unless it is there; with shift 0 it reaches it;
absent, it is seeded there. Within 0..16 × H it stays within (R134). -/
def Obligations.FilterNeverPassesTheLevel : Prop :=
  ∀ (l k : Nat),
    filterNext none l k = 16 * l
    ∧ ∀ f : Nat,
      let g := filterNext (some f) l k
      (f ≤ 16 * l → f ≤ g ∧ g ≤ 16 * l ∧ (f < 16 * l → f < g))
      ∧ (16 * l ≤ f → 16 * l ≤ g ∧ g ≤ f ∧ (16 * l < f → g < f))
      ∧ (k = 0 → g = 16 * l)
      ∧ ∀ h, f ≤ 16 * h → l ≤ h → g ≤ 16 * h ∧ (g + 8) / 16 ≤ h

/-- The volume at a level: the first point's below it, the last's above it, between two points the straight line rounded
half up; with volumes that never decrease it stays between the first and the last, and the fill within 0..1000, a level at
or above the last point reading 1000 (R136, R137). -/
def Obligations.VolumeFollowsTheStrapPoints : Prop :=
  ∀ (pts : List StrapPoint) (l : Nat), 2 ≤ pts.length → pts.Pairwise (fun a b => a.h < b.h) →
    let first := pts.getD 0 ⟨0, 0⟩
    let last := pts.getD (pts.length - 1) ⟨0, 0⟩
    (l ≤ first.h → strapVolume pts l = first.v)
    ∧ (last.h ≤ l → strapVolume pts l = last.v)
    ∧ (∀ i a b, pts[i]? = some a → pts[i + 1]? = some b → a.h ≤ l → l < b.h → a.v ≤ b.v →
        strapVolume pts l = a.v + ((l - a.h) * (b.v - a.v) + (b.h - a.h) / 2) / (b.h - a.h))
    ∧ (pts.Pairwise (fun a b => a.v ≤ b.v) →
        first.v ≤ strapVolume pts l ∧ strapVolume pts l ≤ last.v ∧ lastVolume pts = last.v
        ∧ (0 < last.v → strapVolume pts l * 1000 / last.v ≤ 1000
          ∧ (last.h ≤ l → strapVolume pts l * 1000 / last.v = 1000)))

/-- The report timer's expiry places a level report: for each compartment a word with the fill in bits 0..9, the
validity code in bits 10..11 and the band code in bits 12..13. The timer is reloaded with the period, or stopped (R142,
R143, R182). The status timer's expiry places the page named next, switches the page and reloads the timer with 1000 ms
in UNLOADED, else with the status period, or stops it (R171, R172, R182). -/
def Obligations.PeriodicFramesCarryTheState : Prop :=
  (∀ s : State, s.tank.report = some 0 →
    let words := (wordBits s.tank.comps[0]) ++ (wordBits s.tank.comps[1]) ++ (wordBits s.tank.comps[2])
      ++ (wordBits s.tank.comps[3])
    exec .reportTimerExpiry s = .next { s with
      tank := { s.tank with report := periodLoad s.tables.active.header.levelPeriod }
      places := { s.places with level := (generated s.body .level
        ⟨.extended, .data, 0x0C5AA1D0 + s.straps.node.setWidth 29, 8, words⟩ s.places.level) } })
  ∧ (∀ s : State, s.engine.statusTimer = some 0 →
    exec .statusTimerExpiry s = .next { s with
      engine := { s.engine with
        nextPage := if s.engine.nextPage = .a then .b else .a
        statusTimer := if s.ctl.app = .unloaded then some 1000 else periodLoad s.tables.active.header.statusPeriod }
      places := { s.places with status := (generated s.body .status
        ⟨.extended, .data, 0x0C5AA1C0 + s.straps.node.setWidth 29, 8,
          (if s.engine.nextPage = .a then 0 else 1) :: pageBits s.engine.nextPage s ++ [0]⟩ s.places.status) } })

/-! ## Management requests: reads -/

/-- QUERY_STATUS, READ_SIGNAL and READ_COMPARTMENT answer with the state as it stands at the service and change nothing
else (R72, R145, R172, R181, R182). READ_TABLE, READ_COUNTER and READ_FAULT answer with the value named and change
nothing else: a field by its number and index in the bank named, the hit count from the Active bank's count and as 0 from the
Shadow bank (R18, R149, R183); a counter of the Body Port has counted the arrival of the request that reads it (R170, R179,
R181).
An absent index in a fault record is carried as 0: the model's reading (notes/assumptions/8.md). -/
def Obligations.ReadsAnswerTheStateAsItStands : Prop :=
  (∀ (s : State) (tag : Byte), ReadyToServe s →
    (∀ page : Byte, exec (.queryStatus tag page) s = .next (answers
      (if page = 0 then 1 :: tag :: pageBits .a s
       else if page = 1 then 1 :: tag :: pageBits .b s
       else [0x41, tag, 0, 0, 0, 0, 0, 0]) s))
    ∧ (∀ i : Fin 32,
      let x := s.slots[i]
      let status : BitVec 2 :=
        match x.status with
        | .noData => 0 | .healthy => 1 | .suspect => 2 | .lost => 3
      exec (.readSignal tag (BitVec.ofNat 8 i.val)) s = .next (answers
        ([2, tag] ++ bytes16 (BitVec.ofInt 16 (x.value.getD 0))
          ++ [0#2 ++ oneBit x.stamp.isSome ++ oneBit x.value.isSome ++ 0#2 ++ status, BitVec.ofNat 8 x.hc]
          ++ bytes16 (x.stamp.getD 0)) s))
    ∧ (∀ slot : Byte, 32 ≤ slot.toNat →
      exec (.readSignal tag slot) s = .next (answers [0x32, tag, 0, 0, 0, 0, 0, 0] s))
    ∧ (∀ c : Fin 4, exec (.readCompartment tag (BitVec.ofNat 8 c.val)) s = .next (answers
      ([3, tag] ++ wordBits s.tank.comps[c] ++ bytes16 (BitVec.ofNat 16 s.tank.comps[c].lf)
        ++ bytes16 (BitVec.ofNat 16 s.tank.comps[c].v)) s))
    ∧ (∀ comp : Byte, 4 ≤ comp.toNat →
      exec (.readCompartment tag comp) s = .next (answers [0x33, tag, 0, 0, 0, 0, 0, 0] s)))
  ∧ (∀ (s : State) (tag : Byte), ReadyToServe s →
    (∀ (table : BitVec 3) (field : BitVec 5) (index bank : Byte),
      exec (.readTable tag table field index bank) s = .next (answers
        (match readValue s.tables (decide (bank = 1)) table.toNat index.toNat field.toNat with
         | none => [0x34, tag, 0, 0, 0, 0, 0, 0]
         | some v =>
           if bank = 0 ∨ bank = 1 then [4, tag] ++ bytes32 (BitVec.ofInt 32 v) ++ [0, 0]
           else [0x44, tag, 0, 0, 0, 0, 0, 0]) s))
    ∧ (∀ group counter : Byte, exec (.readCounter tag group counter) s = .next (answers
      (match (counterGroups (tookRequest s))[group.toNat]? with
       | none => [0x4A, tag, 0, 0, 0, 0, 0, 0]
       | some l =>
         match l[counter.toNat]? with
         | none => [0x3A, tag, 0, 0, 0, 0, 0, 0]
         | some n => [0x0A, tag] ++ bytes32 n ++ [0, 0]) s))
    ∧ (s.faults.record = none → exec (.readFault tag) s = .next (answers [0x0C, tag, 0, 0, 0, 0, 0, 0] s))
    ∧ ∀ r : Capture, s.faults.record = some r →
      let severity : BitVec 2 :=
        match r.severity with
        | .note => 0 | .minor => 1 | .major => 2 | .critical => 3
      exec (.readFault tag) s = .next (answers
        ([0x0C, tag, BitVec.ofNat 8 r.cause.code, 0#2 ++ oneBit r.index.isSome ++ BitVec.ofNat 3 r.app.code ++ severity,
          BitVec.ofNat 8 (r.index.getD 0)] ++ bytes16 r.clock ++ [BitVec.ofNat 8 r.suppressed]) s))

/-- PROBE runs the search on the bank, port, mode class, format and identifier named, and answers with the entry and its
action or with the default action; a mode class above 4 or an identifier beyond the format is BAD_VALUE. Nothing else
changes (R153, R181). -/
def Obligations.ProbeReproducesTheSearch : Prop :=
  ∀ (s : State) (tag : Byte) (bank port format : BitVec 1) (cls : BitVec 3) (ident : BitVec 32), ReadyToServe s →
    let b := if bank = 1 then s.tables.shadow else s.tables.active
    let p : Port := if port = 1 then .body else .chassis
    let fmt : Format := if format = 1 then .extended else .standard
    let default := if port = 1 then b.header.bodyDefault else b.header.chassisDefault
    exec (.probe tag bank port format cls ident) s = .next (answers
      (if 4 < cls.toNat ∨ (format = 0 ∧ 2047 < ident.toNat) ∨ 536870911 < ident.toNat then
        [0x48, tag, 0, 0, 0, 0, 0, 0]
      else
        match b.search p cls.toNat fmt .data (ident.setWidth 29) with
        | some i =>
          let action : Byte :=
            match b.fct[i].action with
            | .pass => 0 | .block => 1 | .tap => 2 | .sink => 3 | .clamp => 4 | .rangeGuard => 5
          [8, tag, BitVec.ofNat 8 i.val, action, 0, 0, 0, 0]
        | none => [8, tag, 255, if default = .pass then 0 else 1, 0, 0, 0, 0]) s)

/-! ## Management requests: changes -/

/-- WRITE_TABLE writes one field of the Shadow bank: a number is brought to the nearest end of its range, which the CLAMPED
indication tells; a code that names no member is BAD_VALUE, a field or index beyond the table BAD_INDEX, and then nothing is
written (R52, R150, R181). The fields have the numbers, indices and ranges of R183, and each shows the value its entry holds.
-/
def Obligations.WriteTableSettlesTheValue : Prop :=
  (∀ (s : State) (tag : Byte) (table : BitVec 3) (field : BitVec 5) (index : Byte) (value : BitVec 32), ReadyToServe s →
    exec (.writeTable tag table field index value) s = .next
      (match bankField table.toNat index.toNat field.toNat with
       | none => answers [0x35, tag, 0, 0, 0, 0, 0, 0] s
       | some a =>
         match a.spec.settle value.toInt with
         | none => answers [0x45, tag, 0, 0, 0, 0, 0, 0] s
         | some (v, clamped) =>
           answered ([if clamped then 0x85 else 5, tag] ++ bytes32 (BitVec.ofInt 32 v) ++ [0, 0])
             { tookRequest s with tables := { s.tables with shadow := a.set v s.tables.shadow } }))
  ∧ (∀ (b : Bank) (table index field : Nat),
      (bankField table index field).map (fun a => (a.spec, a.get b)) = (fieldRow b table index)[field]?)
  ∧ (∀ low high v : Int, low ≤ high →
      (FieldSpec.num low high).settle v = some (max low (min high v), decide (v < low ∨ high < v)))
  ∧ (∀ v : Int, FieldSpec.freshness.settle v =
      if v = 0 then some (0, false) else if v < 0 then some (0, true)
      else some (max 10 (min 10000 v), decide (v < 10 ∨ 10000 < v)))
  ∧ (∀ (n : Nat) (v : Int), (FieldSpec.enum n).settle v = if 0 ≤ v ∧ v < n then some (v, false) else none)
  ∧ ∀ v : Int, FieldSpec.binding.settle v = if (0 ≤ v ∧ v ≤ 31) ∨ v = 255 then some (v, false) else none

/-- A value that a field takes is read back as it was written, and a write touches no other field of any table
(R149, R150, R151, R183). -/
def Obligations.WrittenFieldsReadBackAlone : Prop :=
  ∀ (t i f : Nat) (a : FieldAccess Bank) (b : Bank) (v w : Int) (clamped : Bool), bankField t i f = some a →
    a.spec.settle v = some (w, clamped) →
    a.get (a.set w b) = w
    ∧ ∀ (t' i' f' : Nat) (a' : FieldAccess Bank), bankField t' i' f' = some a' → (t', i', f') ≠ (t, i, f) →
      a'.get (a.set w b) = a'.get b

/-- COPY_ACTIVE_TO_SHADOW, CLEAR_FAULT and CLEAR_FLAGS have their one effect and are answered OK (R152, R178, R179).
CLEAR_COUNTERS sets every counter of its group to 0, the count of its own arrival with it, and nothing else; a code
that names no group is BAD_VALUE (R49, R170, R181). -/
def Obligations.CopyAndClearingsHaveOneEffect : Prop :=
  (∀ (s : State) (tag : Byte), ReadyToServe s →
    exec (.copyActiveToShadow tag) s = .next (answered [6, tag, 0, 0, 0, 0, 0, 0]
      { tookRequest s with tables := { s.tables with shadow := s.tables.active } })
    ∧ exec (.clearFault tag) s = .next (answered [0x0D, tag, 0, 0, 0, 0, 0, 0]
      { tookRequest s with faults := { s.faults with record := none } })
    ∧ ∀ mask : BitVec 24, exec (.clearFlags tag mask) s = .next (answered [0x0E, tag, 0, 0, 0, 0, 0, 0]
      { tookRequest s with faults := { s.faults with flags := s.faults.flags &&& ~~~mask } }))
  ∧ (∀ (s : State) (tag group : Byte), ReadyToServe s →
    let t := tookRequest s
    let port (r : PortRec) : PortRec := { r with
      arrivals := 0, mgmtArrivals := 0, localTransmitted := 0, forwardedTransmitted := 0, failedAttempts := 0
      localAbandoned := 0, busFaults := 0 }
    let queue (u : Queue) : Queue := ⟨u.body, u.out, 0, 0, 0, 0, 0, 0, 0⟩
    exec (.clearCounters tag group) s = .next
      (if 6 ≤ group.toNat then answers [0x4B, tag, 0, 0, 0, 0, 0, 0] s
       else answered [0x0B, tag, 0, 0, 0, 0, 0, 0]
        (if group = 0 then { t with chassis := port t.chassis }
         else if group = 1 then { t with body := port t.body }
         else if group = 2 then { t with bc := queue t.bc }
         else if group = 3 then { t with cb := queue t.cb }
         else if group = 4 then { t with tables := { t.tables with hits := Vector.replicate 48 0 } }
         else { t with engine := { t.engine with busyDropped := 0 } })))

/-- QUIESCE, CUT and RESUME by port and port state: the mode check on the Chassis Port first, then the stop or the return to
service; a CUT flushes the queue toward the port and empties its local list but for responses (R41, R44 to R46, R181). -/
def Obligations.PortControlActsByPortState : Prop :=
  ∀ (s : State) (tag : Byte), ReadyToServe s →
    (∀ port : Byte, 2 ≤ port.toNat →
      exec (.quiesce tag port) s = .next (answers [0x49, tag, 0, 0, 0, 0, 0, 0] s)
      ∧ exec (.cut tag port) s = .next (answers [0x49, tag, 0, 0, 0, 0, 0, 0] s)
      ∧ exec (.resume tag port) s = .next (answers [0x49, tag, 0, 0, 0, 0, 0, 0] s))
    ∧ ∀ (p : Port) (port : Byte), port = (match p with | .chassis => 0 | .body => 1) →
      let t := tookRequest s
      let r := t.port p
      let u := t.queue (queueToward p)
      let ok := answered [9, tag, 0, 0, 0, 0, 0, 0]
      let locked : Prop := p = .chassis ∧ s.ctl.app ≠ .road ∧ s.ctl.app ≠ .unloaded
      (locked → exec (.quiesce tag port) s = .next (answers [0x59, tag, 0, 0, 0, 0, 0, 0] s)
        ∧ exec (.cut tag port) s = .next (answers [0x59, tag, 0, 0, 0, 0, 0, 0] s))
      ∧ (¬locked → exec (.quiesce tag port) s = .next (ok
          (match r.st with
           | .active => stopIfDrained p (t.setPort p { r with st := .quiescing })
           | .quiescing | .stopped => t
           | .busFault =>
             t.setPort p { r with quiescePending := true, ret := if r.ret = .active then .quiescing else r.ret })))
      ∧ (¬locked →
        let kept := match r.attempt with
          | none => none
          | some a => if a.source = .busy ∨ a.source = .response .first ∨ a.source = .response .second then some a else none
        let stopped := (t.setPort p
          { r with st := .stopped, run := 0, recovery := none, quiescePending := false, attempt := kept }).setQueue
            (queueToward p) { u with
              body := [], out := none
              flushed := u.flushed + BitVec.ofNat 32 (u.body.length + if u.out.isSome then 1 else 0) }
        exec (.cut tag port) s = .next (ok { stopped with
          places :=
            if p = .chassis then { t.places with lockout := ⟨none, none⟩ }
            else { t.places with status := ⟨none, none⟩, level := ⟨none, none⟩ } }))
      ∧ exec (.resume tag port) s = .next
        (match r.st with
         | .active => ok t
         | .quiescing | .stopped => ok (t.setPort p { r with st := .active })
         | .busFault => answers [0x59, tag, 1, 0, 0, 0, 0, 0] s)

/-- RESTART is taken in UNLOADED, ROAD and FAULT_HOLD: answered OK in the claimed place, its countdown started at 50
ms; in any other state it is REFUSED with reason MODE. A request frame that names no kind, is too short or is a remote
frame is answered BAD_REQUEST with what it holds of kind and tag, and has no other effect (R166, R173, R181). ACTIVATE
at its service: a store flag other than 0 and 1 is BAD_VALUE, a state other than ROAD and UNLOADED is refused and
reported, and else the request stays in service with the first RESPONSE place claimed (R156, R165, R168, R181). -/
def Obligations.RestartActivateAndBadRequestAtService : Prop :=
  (∀ (s : State), ReadyToServe s →
    (∀ tag : Byte, exec (.restart tag) s = .next
      (if s.ctl.app = .unloaded ∨ s.ctl.app = .road ∨ s.ctl.app = .faultHold then
        answered [0x0F, tag, 0, 0, 0, 0, 0, 0]
          { tookRequest s with engine := { (tookRequest s).engine with restart := some ⟨50, .first⟩ } }
       else answers [0x5F, tag, 0, 0, 0, 0, 0, 0] s))
    ∧ ∀ (kind : FrameKind) (length : Nat) (data : List Byte), WellFormed (.badRequest kind length data) = true →
      exec (.badRequest kind length data) s = .next
        (answers [(data.getD 0 0 &&& 0x0F) ||| 0x20, data.getD 1 0, 0, 0, 0, 0, 0, 0] s))
  ∧ (∀ (s : State) (tag store : Byte), ReadyToServe s →
    let t := tookRequest s
    exec (.activate tag store) s = .next
      (if 2 ≤ store.toNat then answers [0x47, tag, 0, 0, 0, 0, 0, 0] s
       else if s.ctl.app = .road ∨ s.ctl.app = .unloaded then
        { t with engine := { t.engine with inService := (some
          ⟨⟨.extended, .data, 0x0C5AA100 + s.straps.node.setWidth 29, 3, [7, tag, store]⟩, .first, .validating⟩) } }
       else answered [0x57, tag, 0, 0, 0, 0, 0, 0] (report .activationRefused (some 0) t)))

/-- The completion of a validation from a coherent state, decided in order: refused by mode, answered INVALID_TABLE
with the first failure, or the copy with its effects on the neighbours. Without the store flag the copy is answered OK;
with it a store begins and the marker is cleared (R154, R157, R159, R168). Validation makes the checks of R155 and R127 in
their order and reports the first that fails, with its number, table and index (R123, R127, R154, R155). What the image holds
meanwhile is open (notes/assumptions/5.md); that the report comes before the services the answer lets begin is the model's
choice (notes/assumptions/27.md), and that the mismatch reports at the entry from UNLOADED carry ROAD is its reading
(notes/assumptions/7.md). -/
def Obligations.ValidationCompletionDecidesInOrder : Prop :=
  (∀ (s : State) (v : Service) (tag flag : Byte), s.engine.inService = some v → v.stage = .validating →
    v.request.data = [7, tag, flag] → TablesCoherent s → DriveCoherent s →
    let freed (t : State) : State := { t with engine := { t.engine with inService := none } }
    let answer (data : List Byte) (t : State) : State := serveWaiting (answeredIn v.place data (freed t))
    let released : Prop := s.ctl.app = .road ∨ s.ctl.app = .unloaded
    let failed := failures s.tables.shadow
    let copied := bankTaken s.tables.shadow
      { s with tables := { s.tables with active := s.tables.shadow, origin := .activated } }
    (¬released → exec .validationCompletion s = .next
      (answer [0x57, tag, 0, 0, 0, 0, 0, 0] (report .activationRefused (some 0) s)))
    ∧ (released → ∀ check table index rest, failed = (check, table, index) :: rest →
      exec .validationCompletion s = .next
        (answer [0x67, tag, BitVec.ofNat 8 table, BitVec.ofNat 8 index, BitVec.ofNat 8 check, 0, 0, 0]
          (report .activationRefused (some check) s)))
    ∧ (released → failed = [] → flag ≠ 1 →
      exec .validationCompletion s = .next (answer [7, tag, 0, 0, 0, 0, 0, 0] copied))
    ∧ (released → failed = [] → flag = 1 → exec .validationCompletion s = .next { copied with
      tables := { copied.tables with
        storing := true, marker := false, store := ⟨Config.partialImage s.freeNext, false⟩ }
      freeNext := s.freeNext + 1
      engine := { copied.engine with inService := some { v with stage := .storing } } }))
  ∧ ∀ b : Bank, (validate b).map (fun f => (f.check.number, f.table, f.index)) = (failures b).head?

/-- At the end of a store whose parts compare equal the image holds the Active bank, the marker is SET and the answer
is OK; else the marker stays CLEAR, STORE_FAILED is reported and answered (R159, R168). At the completion of a power-up
load, from a coherent state, both banks hold the image, the table origin is LOADED, the neighbours take their parts as
at an activation, and the requests held are served (R104, R160, R165). That every report comes before those services is
the model's choice (notes/assumptions/27.md), and that the mismatch reports carry ROAD is its reading
(notes/assumptions/7.md). -/
def Obligations.StoreAndLoadCompletionsTakeTheImage : Prop :=
  (∀ (s : State) (v : Service) (tag flag : Byte), s.engine.inService = some v → v.stage = .storing →
    v.request.data = [7, tag, flag] →
    let freed : State := { s with engine := { s.engine with inService := none } }
    exec (.storeEnd true) s = .next (serveWaiting (answeredIn v.place [7, tag, 0, 0, 0, 0, 0, 0]
      { freed with tables := { s.tables with storing := false, marker := true, store := ⟨s.tables.active, true⟩ } }))
    ∧ exec (.storeEnd false) s = .next (serveWaiting (answeredIn v.place [0x77, tag, 0, 0, 0, 0, 0, 0]
      (report .storeFailed none { freed with tables := { s.tables with storing := false } }))))
  ∧ (∀ s : State, s.tables.origin = .loading → TablesCoherent s → DriveCoherent s →
    let image := s.tables.store.image
    exec .powerUpLoadCompletion s = .next (serveWaiting (bankTaken image
      { s with tables := { s.tables with active := image, shadow := image, origin := .loaded } }))
    ∧ ∀ t : State, t.engine.bufX = none → t.engine.bufY = none → serveWaiting t = t)

/-! ## Fault capture -/

/-- A report changes the Fault Capture Unit alone. From an emptied record, after any list of reports the record holds the
earliest of those of highest severity, with the number of reports since as its suppressed count, at most 255; every
report's flag is set and no flag is cleared (R175, R177, R178). The causes have the codes and severities of R175, and
the severities rise from NOTE over MINOR and MAJOR to CRITICAL. -/
def Obligations.CaptureKeepsTheEarliestOfTheHighest : Prop :=
  (∀ (c : Cause) (index : Option Nat) (s : State),
    report c index s = { s with faults := s.faults.take c index s.ctl.app s.clock })
  ∧ (∀ (c : Cause) (code : Nat) (severity : Severity),
    (code, c, severity) ∈ causeTable ↔ c.code = code ∧ c.severity = severity)
  ∧ [Severity.note, .minor, .major, .critical].Pairwise (fun a b => a.code < b.code)
  ∧ ∀ (flags : BitVec 24) (reports : List (Cause × Option Nat × AppState × Clock)),
    let after := reports.foldl (fun u r => u.take r.1 r.2.1 r.2.2.1 r.2.2.2) (⟨none, flags⟩ : FaultUnit)
    (∀ earlier later cause index app clock, reports = earlier ++ (cause, index, app, clock) :: later →
      (∀ r ∈ earlier, r.1.severity.code < cause.severity.code) →
      (∀ r ∈ later, r.1.severity.code ≤ cause.severity.code) →
      after.record = some ⟨cause.severity, cause, index, app, clock, min 255 later.length⟩)
    ∧ ∀ k, after.flags.getLsbD k = (flags.getLsbD k || reports.any fun r => r.1.code == k + 1)

/-! ## Laws that every step keeps -/

/-- Outside the resets and a power-up load the Active bank changes only while the interlock is in ROAD or UNLOADED, and
leaves it in ROAD (R157). -/
def Obligations.ActiveBankChangesOnlyInRoadOrUnloaded : Prop :=
  ∀ (c : Instr) (s t : State), TablesCoherent s → (∀ x, c ≠ .powerReset x ∧ c ≠ .pinReset x) →
    exec c s = .next t → t.tables.active ≠ s.tables.active →
    (s.ctl.app = .road ∨ s.ctl.app = .unloaded) ∧ t.ctl.app = .road

/-- From every state whose slots are as R51 describes them, every step leaves them so: LOST exactly at health counter 255,
HEALTHY only below 64, recoveries and holds in LOST alone (R51, R57 to R63). -/
def Obligations.EveryStepKeepsTheSlotLaws : Prop :=
  ∀ s t : State, SlotsCoherent s → step s = .next t → SlotsCoherent t

/-- Every step keeps the law of the forwarding queues: at most 16 records in a body, no two latest-only records of one
identifier and format, attempt counts of 0 in a body and below 8 in an output stage (R26, R28, R34). -/
def Obligations.EveryStepKeepsTheQueueLaw : Prop :=
  ∀ s t : State, QueuesCoherent s → step s = .next t → QueuesCoherent t

/-- Every step keeps the laws of the interlock, the ceiling and the tables together: the drive outputs, the lamp, the phase,
origin and lockout content that each apparatus state has, the ceiling at 0 wherever the mode base is, a valid bank in force
outside UNLOADED, and a last forwarded range in ROLL that is allowed (R73, R75, R105, R106, R112, R113, R117, R119, R161). -/
def Obligations.EveryStepKeepsTheDriveLaws : Prop :=
  ∀ s t : State, DriveCoherent s ∧ TablesCoherent s ∧ RangeAllowed s → step s = .next t →
    (DriveCoherent t ∧ TablesCoherent t ∧ RangeAllowed t) ∧ ¬(t.ctl.mainShift = true ∧ t.ctl.auxClutch = true)

/-- Every step keeps the laws of the ports and local places: a frame in mid-attempt stands where it was, a BUS_FAULT port has
its timer and no attempt, a STOPPED port holds nothing but responses, a QUIESCING port is not yet drained, and a replacement
waits only behind a frame in mid-attempt (R31, R34, R36, R37, R39 to R43). -/
def Obligations.EveryStepKeepsThePortLaws : Prop :=
  ∀ s t : State, PortsCoherent s → step s = .next t → PortsCoherent t

/-- Every step keeps the laws of the Management Engine: no request waits while a service may begin, and the place that an
ACTIVATE has claimed holds no frame (R165, R168). -/
def Obligations.EveryStepKeepsTheEngineLaws : Prop :=
  ∀ s t : State, EngineCoherent s → step s = .next t → EngineCoherent t
end

