-- ==== Sys2Proof/Laws/State.lean ====
section
/-! SUPPORT. One lemma per field per update of the state, so that no later proof unfolds a record update. -/

namespace Sys2Proof.Machine

variable (s : State)

/-! ## setPort -/

@[simp] theorem State.setPort_pending (p : Port) (r : PortRec) : (s.setPort p r).pending = s.pending := by cases p <;> rfl
@[simp] theorem State.setPort_straps (p : Port) (r : PortRec) : (s.setPort p r).straps = s.straps := by cases p <;> rfl
@[simp] theorem State.setPort_bc (p : Port) (r : PortRec) : (s.setPort p r).bc = s.bc := by cases p <;> rfl
@[simp] theorem State.setPort_cb (p : Port) (r : PortRec) : (s.setPort p r).cb = s.cb := by cases p <;> rfl
@[simp] theorem State.setPort_places (p : Port) (r : PortRec) : (s.setPort p r).places = s.places := by cases p <;> rfl
@[simp] theorem State.setPort_slots (p : Port) (r : PortRec) : (s.setPort p r).slots = s.slots := by cases p <;> rfl
@[simp] theorem State.setPort_clock (p : Port) (r : PortRec) : (s.setPort p r).clock = s.clock := by cases p <;> rfl
@[simp] theorem State.setPort_ctl (p : Port) (r : PortRec) : (s.setPort p r).ctl = s.ctl := by cases p <;> rfl
@[simp] theorem State.setPort_ceil (p : Port) (r : PortRec) : (s.setPort p r).ceil = s.ceil := by cases p <;> rfl
@[simp] theorem State.setPort_tank (p : Port) (r : PortRec) : (s.setPort p r).tank = s.tank := by cases p <;> rfl
@[simp] theorem State.setPort_tables (p : Port) (r : PortRec) : (s.setPort p r).tables = s.tables := by cases p <;> rfl
@[simp] theorem State.setPort_engine (p : Port) (r : PortRec) : (s.setPort p r).engine = s.engine := by cases p <;> rfl
@[simp] theorem State.setPort_faults (p : Port) (r : PortRec) : (s.setPort p r).faults = s.faults := by cases p <;> rfl
@[simp] theorem State.setPort_freeNext (p : Port) (r : PortRec) : (s.setPort p r).freeNext = s.freeNext := by cases p <;> rfl
@[simp] theorem State.setPort_port (p : Port) (r : PortRec) : (s.setPort p r).port p = r := by cases p <;> rfl
@[simp] theorem State.setPort_port_other (p : Port) (r : PortRec) : (s.setPort p r).port (otherPort p) = s.port (otherPort p) := by
  cases p <;> rfl
@[simp] theorem State.setPort_queue (p : Port) (r : PortRec) (q : QueueId) : (s.setPort p r).queue q = s.queue q := by
  cases p <;> cases q <;> rfl
@[simp] theorem State.setPort_chassis_body (r : PortRec) : (s.setPort .chassis r).body = s.body := rfl
@[simp] theorem State.setPort_body_chassis (r : PortRec) : (s.setPort .body r).chassis = s.chassis := rfl

/-! ## setQueue -/

@[simp] theorem State.setQueue_pending (q : QueueId) (u : Queue) : (s.setQueue q u).pending = s.pending := by cases q <;> rfl
@[simp] theorem State.setQueue_straps (q : QueueId) (u : Queue) : (s.setQueue q u).straps = s.straps := by cases q <;> rfl
@[simp] theorem State.setQueue_chassis (q : QueueId) (u : Queue) : (s.setQueue q u).chassis = s.chassis := by cases q <;> rfl
@[simp] theorem State.setQueue_body (q : QueueId) (u : Queue) : (s.setQueue q u).body = s.body := by cases q <;> rfl
@[simp] theorem State.setQueue_places (q : QueueId) (u : Queue) : (s.setQueue q u).places = s.places := by cases q <;> rfl
@[simp] theorem State.setQueue_slots (q : QueueId) (u : Queue) : (s.setQueue q u).slots = s.slots := by cases q <;> rfl
@[simp] theorem State.setQueue_clock (q : QueueId) (u : Queue) : (s.setQueue q u).clock = s.clock := by cases q <;> rfl
@[simp] theorem State.setQueue_ctl (q : QueueId) (u : Queue) : (s.setQueue q u).ctl = s.ctl := by cases q <;> rfl
@[simp] theorem State.setQueue_ceil (q : QueueId) (u : Queue) : (s.setQueue q u).ceil = s.ceil := by cases q <;> rfl
@[simp] theorem State.setQueue_tank (q : QueueId) (u : Queue) : (s.setQueue q u).tank = s.tank := by cases q <;> rfl
@[simp] theorem State.setQueue_tables (q : QueueId) (u : Queue) : (s.setQueue q u).tables = s.tables := by cases q <;> rfl
@[simp] theorem State.setQueue_engine (q : QueueId) (u : Queue) : (s.setQueue q u).engine = s.engine := by cases q <;> rfl
@[simp] theorem State.setQueue_faults (q : QueueId) (u : Queue) : (s.setQueue q u).faults = s.faults := by cases q <;> rfl
@[simp] theorem State.setQueue_freeNext (q : QueueId) (u : Queue) : (s.setQueue q u).freeNext = s.freeNext := by cases q <;> rfl
@[simp] theorem State.setQueue_queue (q : QueueId) (u : Queue) : (s.setQueue q u).queue q = u := by cases q <;> rfl
@[simp] theorem State.setQueue_port (q : QueueId) (u : Queue) (p : Port) : (s.setQueue q u).port p = s.port p := by
  cases q <;> cases p <;> rfl
@[simp] theorem State.setQueue_bc_cb (u : Queue) : (s.setQueue .bc u).cb = s.cb := rfl
@[simp] theorem State.setQueue_cb_bc (u : Queue) : (s.setQueue .cb u).bc = s.bc := rfl

/-! ## setCtl -/

@[simp] theorem State.setCtl_pending (c : Controller) : (s.setCtl c).pending = s.pending := rfl
@[simp] theorem State.setCtl_straps (c : Controller) : (s.setCtl c).straps = s.straps := rfl
@[simp] theorem State.setCtl_chassis (c : Controller) : (s.setCtl c).chassis = s.chassis := rfl
@[simp] theorem State.setCtl_body (c : Controller) : (s.setCtl c).body = s.body := rfl
@[simp] theorem State.setCtl_bc (c : Controller) : (s.setCtl c).bc = s.bc := rfl
@[simp] theorem State.setCtl_cb (c : Controller) : (s.setCtl c).cb = s.cb := rfl
@[simp] theorem State.setCtl_places (c : Controller) : (s.setCtl c).places = s.places := rfl
@[simp] theorem State.setCtl_slots (c : Controller) : (s.setCtl c).slots = s.slots := rfl
@[simp] theorem State.setCtl_clock (c : Controller) : (s.setCtl c).clock = s.clock := rfl
@[simp] theorem State.setCtl_ceil (c : Controller) : (s.setCtl c).ceil = s.ceil := rfl
@[simp] theorem State.setCtl_tank (c : Controller) : (s.setCtl c).tank = s.tank := rfl
@[simp] theorem State.setCtl_tables (c : Controller) : (s.setCtl c).tables = s.tables := rfl
@[simp] theorem State.setCtl_engine (c : Controller) : (s.setCtl c).engine = s.engine := rfl
@[simp] theorem State.setCtl_faults (c : Controller) : (s.setCtl c).faults = s.faults := rfl
@[simp] theorem State.setCtl_freeNext (c : Controller) : (s.setCtl c).freeNext = s.freeNext := rfl
@[simp] theorem State.setCtl_ctl (c : Controller) : (s.setCtl c).ctl = c := rfl

/-! ## setSlot -/

@[simp] theorem State.setSlot_pending (i : Fin 32) (x : Slot) : (s.setSlot i x).pending = s.pending := rfl
@[simp] theorem State.setSlot_straps (i : Fin 32) (x : Slot) : (s.setSlot i x).straps = s.straps := rfl
@[simp] theorem State.setSlot_chassis (i : Fin 32) (x : Slot) : (s.setSlot i x).chassis = s.chassis := rfl
@[simp] theorem State.setSlot_body (i : Fin 32) (x : Slot) : (s.setSlot i x).body = s.body := rfl
@[simp] theorem State.setSlot_bc (i : Fin 32) (x : Slot) : (s.setSlot i x).bc = s.bc := rfl
@[simp] theorem State.setSlot_cb (i : Fin 32) (x : Slot) : (s.setSlot i x).cb = s.cb := rfl
@[simp] theorem State.setSlot_places (i : Fin 32) (x : Slot) : (s.setSlot i x).places = s.places := rfl
@[simp] theorem State.setSlot_clock (i : Fin 32) (x : Slot) : (s.setSlot i x).clock = s.clock := rfl
@[simp] theorem State.setSlot_ctl (i : Fin 32) (x : Slot) : (s.setSlot i x).ctl = s.ctl := rfl
@[simp] theorem State.setSlot_ceil (i : Fin 32) (x : Slot) : (s.setSlot i x).ceil = s.ceil := rfl
@[simp] theorem State.setSlot_tank (i : Fin 32) (x : Slot) : (s.setSlot i x).tank = s.tank := rfl
@[simp] theorem State.setSlot_tables (i : Fin 32) (x : Slot) : (s.setSlot i x).tables = s.tables := rfl
@[simp] theorem State.setSlot_engine (i : Fin 32) (x : Slot) : (s.setSlot i x).engine = s.engine := rfl
@[simp] theorem State.setSlot_faults (i : Fin 32) (x : Slot) : (s.setSlot i x).faults = s.faults := rfl
@[simp] theorem State.setSlot_freeNext (i : Fin 32) (x : Slot) : (s.setSlot i x).freeNext = s.freeNext := rfl
@[simp] theorem State.setSlot_slots (i : Fin 32) (x : Slot) : (s.setSlot i x).slots[i] = x := by simp [State.setSlot]
theorem State.setSlot_slots_other (i j : Fin 32) (x : Slot) (h : i ≠ j) : (s.setSlot i x).slots[j] = s.slots[j] := by
  simp [State.setSlot, Fin.val_ne_of_ne h]

/-! ## setComp -/

@[simp] theorem State.setComp_pending (c : Fin 4) (x : CompRec) : (s.setComp c x).pending = s.pending := rfl
@[simp] theorem State.setComp_straps (c : Fin 4) (x : CompRec) : (s.setComp c x).straps = s.straps := rfl
@[simp] theorem State.setComp_chassis (c : Fin 4) (x : CompRec) : (s.setComp c x).chassis = s.chassis := rfl
@[simp] theorem State.setComp_body (c : Fin 4) (x : CompRec) : (s.setComp c x).body = s.body := rfl
@[simp] theorem State.setComp_bc (c : Fin 4) (x : CompRec) : (s.setComp c x).bc = s.bc := rfl
@[simp] theorem State.setComp_cb (c : Fin 4) (x : CompRec) : (s.setComp c x).cb = s.cb := rfl
@[simp] theorem State.setComp_places (c : Fin 4) (x : CompRec) : (s.setComp c x).places = s.places := rfl
@[simp] theorem State.setComp_slots (c : Fin 4) (x : CompRec) : (s.setComp c x).slots = s.slots := rfl
@[simp] theorem State.setComp_clock (c : Fin 4) (x : CompRec) : (s.setComp c x).clock = s.clock := rfl
@[simp] theorem State.setComp_ctl (c : Fin 4) (x : CompRec) : (s.setComp c x).ctl = s.ctl := rfl
@[simp] theorem State.setComp_ceil (c : Fin 4) (x : CompRec) : (s.setComp c x).ceil = s.ceil := rfl
@[simp] theorem State.setComp_tables (c : Fin 4) (x : CompRec) : (s.setComp c x).tables = s.tables := rfl
@[simp] theorem State.setComp_engine (c : Fin 4) (x : CompRec) : (s.setComp c x).engine = s.engine := rfl
@[simp] theorem State.setComp_faults (c : Fin 4) (x : CompRec) : (s.setComp c x).faults = s.faults := rfl
@[simp] theorem State.setComp_freeNext (c : Fin 4) (x : CompRec) : (s.setComp c x).freeNext = s.freeNext := rfl
@[simp] theorem State.setComp_comps (c : Fin 4) (x : CompRec) : (s.setComp c x).tank.comps[c] = x := by simp [State.setComp]
theorem State.setComp_comps_other (c d : Fin 4) (x : CompRec) (h : c ≠ d) :
    (s.setComp c x).tank.comps[d] = s.tank.comps[d] := by
  simp [State.setComp, Fin.val_ne_of_ne h]
@[simp] theorem State.setComp_report (c : Fin 4) (x : CompRec) : (s.setComp c x).tank.report = s.tank.report := rfl

/-! ## report -/

@[simp] theorem report_pending (c : Cause) (i : Option Nat) : (report c i s).pending = s.pending := rfl
@[simp] theorem report_straps (c : Cause) (i : Option Nat) : (report c i s).straps = s.straps := rfl
@[simp] theorem report_chassis (c : Cause) (i : Option Nat) : (report c i s).chassis = s.chassis := rfl
@[simp] theorem report_body (c : Cause) (i : Option Nat) : (report c i s).body = s.body := rfl
@[simp] theorem report_bc (c : Cause) (i : Option Nat) : (report c i s).bc = s.bc := rfl
@[simp] theorem report_cb (c : Cause) (i : Option Nat) : (report c i s).cb = s.cb := rfl
@[simp] theorem report_places (c : Cause) (i : Option Nat) : (report c i s).places = s.places := rfl
@[simp] theorem report_slots (c : Cause) (i : Option Nat) : (report c i s).slots = s.slots := rfl
@[simp] theorem report_clock (c : Cause) (i : Option Nat) : (report c i s).clock = s.clock := rfl
@[simp] theorem report_ctl (c : Cause) (i : Option Nat) : (report c i s).ctl = s.ctl := rfl
@[simp] theorem report_ceil (c : Cause) (i : Option Nat) : (report c i s).ceil = s.ceil := rfl
@[simp] theorem report_tank (c : Cause) (i : Option Nat) : (report c i s).tank = s.tank := rfl
@[simp] theorem report_tables (c : Cause) (i : Option Nat) : (report c i s).tables = s.tables := rfl
@[simp] theorem report_engine (c : Cause) (i : Option Nat) : (report c i s).engine = s.engine := rfl
@[simp] theorem report_freeNext (c : Cause) (i : Option Nat) : (report c i s).freeNext = s.freeNext := rfl
@[simp] theorem report_port (c : Cause) (i : Option Nat) (p : Port) : (report c i s).port p = s.port p := by cases p <;> rfl
@[simp] theorem report_queue (c : Cause) (i : Option Nat) (q : QueueId) : (report c i s).queue q = s.queue q := by
  cases q <;> rfl

/-! ## placeLockout -/

@[simp] theorem placeLockout_pending (f : Frame) : (placeLockout f s).pending = s.pending := rfl
@[simp] theorem placeLockout_straps (f : Frame) : (placeLockout f s).straps = s.straps := rfl
@[simp] theorem placeLockout_chassis (f : Frame) : (placeLockout f s).chassis = s.chassis := rfl
@[simp] theorem placeLockout_body (f : Frame) : (placeLockout f s).body = s.body := rfl
@[simp] theorem placeLockout_bc (f : Frame) : (placeLockout f s).bc = s.bc := rfl
@[simp] theorem placeLockout_cb (f : Frame) : (placeLockout f s).cb = s.cb := rfl
@[simp] theorem placeLockout_slots (f : Frame) : (placeLockout f s).slots = s.slots := rfl
@[simp] theorem placeLockout_clock (f : Frame) : (placeLockout f s).clock = s.clock := rfl
@[simp] theorem placeLockout_ctl (f : Frame) : (placeLockout f s).ctl = s.ctl := rfl
@[simp] theorem placeLockout_ceil (f : Frame) : (placeLockout f s).ceil = s.ceil := rfl
@[simp] theorem placeLockout_tank (f : Frame) : (placeLockout f s).tank = s.tank := rfl
@[simp] theorem placeLockout_tables (f : Frame) : (placeLockout f s).tables = s.tables := rfl
@[simp] theorem placeLockout_engine (f : Frame) : (placeLockout f s).engine = s.engine := rfl
@[simp] theorem placeLockout_faults (f : Frame) : (placeLockout f s).faults = s.faults := rfl
@[simp] theorem placeLockout_freeNext (f : Frame) : (placeLockout f s).freeNext = s.freeNext := rfl

/-! ## placeStatus -/

@[simp] theorem placeStatus_pending (f : Frame) : (placeStatus f s).pending = s.pending := rfl
@[simp] theorem placeStatus_straps (f : Frame) : (placeStatus f s).straps = s.straps := rfl
@[simp] theorem placeStatus_chassis (f : Frame) : (placeStatus f s).chassis = s.chassis := rfl
@[simp] theorem placeStatus_body (f : Frame) : (placeStatus f s).body = s.body := rfl
@[simp] theorem placeStatus_bc (f : Frame) : (placeStatus f s).bc = s.bc := rfl
@[simp] theorem placeStatus_cb (f : Frame) : (placeStatus f s).cb = s.cb := rfl
@[simp] theorem placeStatus_slots (f : Frame) : (placeStatus f s).slots = s.slots := rfl
@[simp] theorem placeStatus_clock (f : Frame) : (placeStatus f s).clock = s.clock := rfl
@[simp] theorem placeStatus_ctl (f : Frame) : (placeStatus f s).ctl = s.ctl := rfl
@[simp] theorem placeStatus_ceil (f : Frame) : (placeStatus f s).ceil = s.ceil := rfl
@[simp] theorem placeStatus_tank (f : Frame) : (placeStatus f s).tank = s.tank := rfl
@[simp] theorem placeStatus_tables (f : Frame) : (placeStatus f s).tables = s.tables := rfl
@[simp] theorem placeStatus_engine (f : Frame) : (placeStatus f s).engine = s.engine := rfl
@[simp] theorem placeStatus_faults (f : Frame) : (placeStatus f s).faults = s.faults := rfl
@[simp] theorem placeStatus_freeNext (f : Frame) : (placeStatus f s).freeNext = s.freeNext := rfl

/-! ## placeLevel -/

@[simp] theorem placeLevel_pending (f : Frame) : (placeLevel f s).pending = s.pending := rfl
@[simp] theorem placeLevel_straps (f : Frame) : (placeLevel f s).straps = s.straps := rfl
@[simp] theorem placeLevel_chassis (f : Frame) : (placeLevel f s).chassis = s.chassis := rfl
@[simp] theorem placeLevel_body (f : Frame) : (placeLevel f s).body = s.body := rfl
@[simp] theorem placeLevel_bc (f : Frame) : (placeLevel f s).bc = s.bc := rfl
@[simp] theorem placeLevel_cb (f : Frame) : (placeLevel f s).cb = s.cb := rfl
@[simp] theorem placeLevel_slots (f : Frame) : (placeLevel f s).slots = s.slots := rfl
@[simp] theorem placeLevel_clock (f : Frame) : (placeLevel f s).clock = s.clock := rfl
@[simp] theorem placeLevel_ctl (f : Frame) : (placeLevel f s).ctl = s.ctl := rfl
@[simp] theorem placeLevel_ceil (f : Frame) : (placeLevel f s).ceil = s.ceil := rfl
@[simp] theorem placeLevel_tank (f : Frame) : (placeLevel f s).tank = s.tank := rfl
@[simp] theorem placeLevel_tables (f : Frame) : (placeLevel f s).tables = s.tables := rfl
@[simp] theorem placeLevel_engine (f : Frame) : (placeLevel f s).engine = s.engine := rfl
@[simp] theorem placeLevel_faults (f : Frame) : (placeLevel f s).faults = s.faults := rfl
@[simp] theorem placeLevel_freeNext (f : Frame) : (placeLevel f s).freeNext = s.freeNext := rfl

/-! ## placeResponse -/

@[simp] theorem placeResponse_pending (p : RespPlace) (f : Frame) : (placeResponse p f s).pending = s.pending := rfl
@[simp] theorem placeResponse_straps (p : RespPlace) (f : Frame) : (placeResponse p f s).straps = s.straps := rfl
@[simp] theorem placeResponse_chassis (p : RespPlace) (f : Frame) : (placeResponse p f s).chassis = s.chassis := rfl
@[simp] theorem placeResponse_body (p : RespPlace) (f : Frame) : (placeResponse p f s).body = s.body := rfl
@[simp] theorem placeResponse_bc (p : RespPlace) (f : Frame) : (placeResponse p f s).bc = s.bc := rfl
@[simp] theorem placeResponse_cb (p : RespPlace) (f : Frame) : (placeResponse p f s).cb = s.cb := rfl
@[simp] theorem placeResponse_slots (p : RespPlace) (f : Frame) : (placeResponse p f s).slots = s.slots := rfl
@[simp] theorem placeResponse_clock (p : RespPlace) (f : Frame) : (placeResponse p f s).clock = s.clock := rfl
@[simp] theorem placeResponse_ctl (p : RespPlace) (f : Frame) : (placeResponse p f s).ctl = s.ctl := rfl
@[simp] theorem placeResponse_ceil (p : RespPlace) (f : Frame) : (placeResponse p f s).ceil = s.ceil := rfl
@[simp] theorem placeResponse_tank (p : RespPlace) (f : Frame) : (placeResponse p f s).tank = s.tank := rfl
@[simp] theorem placeResponse_tables (p : RespPlace) (f : Frame) : (placeResponse p f s).tables = s.tables := rfl
@[simp] theorem placeResponse_engine (p : RespPlace) (f : Frame) : (placeResponse p f s).engine = s.engine := rfl
@[simp] theorem placeResponse_faults (p : RespPlace) (f : Frame) : (placeResponse p f s).faults = s.faults := rfl
@[simp] theorem placeResponse_freeNext (p : RespPlace) (f : Frame) : (placeResponse p f s).freeNext = s.freeNext := rfl

/-! ## zeroHits -/

@[simp] theorem zeroHits_pending : (zeroHits s).pending = s.pending := rfl
@[simp] theorem zeroHits_straps : (zeroHits s).straps = s.straps := rfl
@[simp] theorem zeroHits_chassis : (zeroHits s).chassis = s.chassis := rfl
@[simp] theorem zeroHits_body : (zeroHits s).body = s.body := rfl
@[simp] theorem zeroHits_bc : (zeroHits s).bc = s.bc := rfl
@[simp] theorem zeroHits_cb : (zeroHits s).cb = s.cb := rfl
@[simp] theorem zeroHits_places : (zeroHits s).places = s.places := rfl
@[simp] theorem zeroHits_slots : (zeroHits s).slots = s.slots := rfl
@[simp] theorem zeroHits_clock : (zeroHits s).clock = s.clock := rfl
@[simp] theorem zeroHits_ctl : (zeroHits s).ctl = s.ctl := rfl
@[simp] theorem zeroHits_ceil : (zeroHits s).ceil = s.ceil := rfl
@[simp] theorem zeroHits_tank : (zeroHits s).tank = s.tank := rfl
@[simp] theorem zeroHits_engine : (zeroHits s).engine = s.engine := rfl
@[simp] theorem zeroHits_faults : (zeroHits s).faults = s.faults := rfl
@[simp] theorem zeroHits_freeNext : (zeroHits s).freeNext = s.freeNext := rfl

/-! ## resetSlots -/

@[simp] theorem resetSlots_pending : (resetSlots s).pending = s.pending := by simp only [resetSlots]
@[simp] theorem resetSlots_straps : (resetSlots s).straps = s.straps := by simp only [resetSlots]
@[simp] theorem resetSlots_chassis : (resetSlots s).chassis = s.chassis := by simp only [resetSlots]
@[simp] theorem resetSlots_body : (resetSlots s).body = s.body := by simp only [resetSlots]
@[simp] theorem resetSlots_bc : (resetSlots s).bc = s.bc := by simp only [resetSlots]
@[simp] theorem resetSlots_cb : (resetSlots s).cb = s.cb := by simp only [resetSlots]
@[simp] theorem resetSlots_places : (resetSlots s).places = s.places := by simp only [resetSlots]
@[simp] theorem resetSlots_clock : (resetSlots s).clock = s.clock := by simp only [resetSlots]
@[simp] theorem resetSlots_ctl : (resetSlots s).ctl = s.ctl := by simp only [resetSlots]
@[simp] theorem resetSlots_ceil : (resetSlots s).ceil = s.ceil := by simp only [resetSlots]
@[simp] theorem resetSlots_tank : (resetSlots s).tank = s.tank := by simp only [resetSlots]
@[simp] theorem resetSlots_tables : (resetSlots s).tables = s.tables := by simp only [resetSlots]
@[simp] theorem resetSlots_engine : (resetSlots s).engine = s.engine := by simp only [resetSlots]
@[simp] theorem resetSlots_faults : (resetSlots s).faults = s.faults := by simp only [resetSlots]
@[simp] theorem resetSlots_freeNext : (resetSlots s).freeNext = s.freeNext := by simp only [resetSlots]

/-! ## resetComps -/

@[simp] theorem resetComps_pending : (resetComps s).pending = s.pending := rfl
@[simp] theorem resetComps_straps : (resetComps s).straps = s.straps := rfl
@[simp] theorem resetComps_chassis : (resetComps s).chassis = s.chassis := rfl
@[simp] theorem resetComps_body : (resetComps s).body = s.body := rfl
@[simp] theorem resetComps_bc : (resetComps s).bc = s.bc := rfl
@[simp] theorem resetComps_cb : (resetComps s).cb = s.cb := rfl
@[simp] theorem resetComps_places : (resetComps s).places = s.places := rfl
@[simp] theorem resetComps_slots : (resetComps s).slots = s.slots := rfl
@[simp] theorem resetComps_clock : (resetComps s).clock = s.clock := rfl
@[simp] theorem resetComps_ctl : (resetComps s).ctl = s.ctl := rfl
@[simp] theorem resetComps_ceil : (resetComps s).ceil = s.ceil := rfl
@[simp] theorem resetComps_tables : (resetComps s).tables = s.tables := rfl
@[simp] theorem resetComps_engine : (resetComps s).engine = s.engine := rfl
@[simp] theorem resetComps_faults : (resetComps s).faults = s.faults := rfl
@[simp] theorem resetComps_freeNext : (resetComps s).freeNext = s.freeNext := rfl

/-! ## loadReportTimer -/

@[simp] theorem loadReportTimer_pending : (loadReportTimer s).pending = s.pending := rfl
@[simp] theorem loadReportTimer_straps : (loadReportTimer s).straps = s.straps := rfl
@[simp] theorem loadReportTimer_chassis : (loadReportTimer s).chassis = s.chassis := rfl
@[simp] theorem loadReportTimer_body : (loadReportTimer s).body = s.body := rfl
@[simp] theorem loadReportTimer_bc : (loadReportTimer s).bc = s.bc := rfl
@[simp] theorem loadReportTimer_cb : (loadReportTimer s).cb = s.cb := rfl
@[simp] theorem loadReportTimer_places : (loadReportTimer s).places = s.places := rfl
@[simp] theorem loadReportTimer_slots : (loadReportTimer s).slots = s.slots := rfl
@[simp] theorem loadReportTimer_clock : (loadReportTimer s).clock = s.clock := rfl
@[simp] theorem loadReportTimer_ctl : (loadReportTimer s).ctl = s.ctl := rfl
@[simp] theorem loadReportTimer_ceil : (loadReportTimer s).ceil = s.ceil := rfl
@[simp] theorem loadReportTimer_tables : (loadReportTimer s).tables = s.tables := rfl
@[simp] theorem loadReportTimer_engine : (loadReportTimer s).engine = s.engine := rfl
@[simp] theorem loadReportTimer_faults : (loadReportTimer s).faults = s.faults := rfl
@[simp] theorem loadReportTimer_freeNext : (loadReportTimer s).freeNext = s.freeNext := rfl

/-! ## loadStatusTimer -/

@[simp] theorem loadStatusTimer_pending : (loadStatusTimer s).pending = s.pending := rfl
@[simp] theorem loadStatusTimer_straps : (loadStatusTimer s).straps = s.straps := rfl
@[simp] theorem loadStatusTimer_chassis : (loadStatusTimer s).chassis = s.chassis := rfl
@[simp] theorem loadStatusTimer_body : (loadStatusTimer s).body = s.body := rfl
@[simp] theorem loadStatusTimer_bc : (loadStatusTimer s).bc = s.bc := rfl
@[simp] theorem loadStatusTimer_cb : (loadStatusTimer s).cb = s.cb := rfl
@[simp] theorem loadStatusTimer_places : (loadStatusTimer s).places = s.places := rfl
@[simp] theorem loadStatusTimer_slots : (loadStatusTimer s).slots = s.slots := rfl
@[simp] theorem loadStatusTimer_clock : (loadStatusTimer s).clock = s.clock := rfl
@[simp] theorem loadStatusTimer_ctl : (loadStatusTimer s).ctl = s.ctl := rfl
@[simp] theorem loadStatusTimer_ceil : (loadStatusTimer s).ceil = s.ceil := rfl
@[simp] theorem loadStatusTimer_tank : (loadStatusTimer s).tank = s.tank := rfl
@[simp] theorem loadStatusTimer_tables : (loadStatusTimer s).tables = s.tables := rfl
@[simp] theorem loadStatusTimer_faults : (loadStatusTimer s).faults = s.faults := rfl
@[simp] theorem loadStatusTimer_freeNext : (loadStatusTimer s).freeNext = s.freeNext := rfl

/-! ## countHit -/

@[simp] theorem countHit_pending (i : Fin 48) : (countHit i s).pending = s.pending := rfl
@[simp] theorem countHit_straps (i : Fin 48) : (countHit i s).straps = s.straps := rfl
@[simp] theorem countHit_chassis (i : Fin 48) : (countHit i s).chassis = s.chassis := rfl
@[simp] theorem countHit_body (i : Fin 48) : (countHit i s).body = s.body := rfl
@[simp] theorem countHit_bc (i : Fin 48) : (countHit i s).bc = s.bc := rfl
@[simp] theorem countHit_cb (i : Fin 48) : (countHit i s).cb = s.cb := rfl
@[simp] theorem countHit_places (i : Fin 48) : (countHit i s).places = s.places := rfl
@[simp] theorem countHit_slots (i : Fin 48) : (countHit i s).slots = s.slots := rfl
@[simp] theorem countHit_clock (i : Fin 48) : (countHit i s).clock = s.clock := rfl
@[simp] theorem countHit_ctl (i : Fin 48) : (countHit i s).ctl = s.ctl := rfl
@[simp] theorem countHit_ceil (i : Fin 48) : (countHit i s).ceil = s.ceil := rfl
@[simp] theorem countHit_tank (i : Fin 48) : (countHit i s).tank = s.tank := rfl
@[simp] theorem countHit_engine (i : Fin 48) : (countHit i s).engine = s.engine := rfl
@[simp] theorem countHit_faults (i : Fin 48) : (countHit i s).faults = s.faults := rfl
@[simp] theorem countHit_freeNext (i : Fin 48) : (countHit i s).freeNext = s.freeNext := rfl

/-! ## levelReport -/

@[simp] theorem levelReport_pending : (levelReport s).pending = s.pending := rfl
@[simp] theorem levelReport_straps : (levelReport s).straps = s.straps := rfl
@[simp] theorem levelReport_chassis : (levelReport s).chassis = s.chassis := rfl
@[simp] theorem levelReport_body : (levelReport s).body = s.body := rfl
@[simp] theorem levelReport_bc : (levelReport s).bc = s.bc := rfl
@[simp] theorem levelReport_cb : (levelReport s).cb = s.cb := rfl
@[simp] theorem levelReport_slots : (levelReport s).slots = s.slots := rfl
@[simp] theorem levelReport_clock : (levelReport s).clock = s.clock := rfl
@[simp] theorem levelReport_ctl : (levelReport s).ctl = s.ctl := rfl
@[simp] theorem levelReport_ceil : (levelReport s).ceil = s.ceil := rfl
@[simp] theorem levelReport_tables : (levelReport s).tables = s.tables := rfl
@[simp] theorem levelReport_engine : (levelReport s).engine = s.engine := rfl
@[simp] theorem levelReport_faults : (levelReport s).faults = s.faults := rfl
@[simp] theorem levelReport_freeNext : (levelReport s).freeNext = s.freeNext := rfl

/-! ## evaluateCeiling -/

@[simp] theorem evaluateCeiling_pending : (evaluateCeiling s).pending = s.pending := by
  simp only [evaluateCeiling]; split <;> rfl
@[simp] theorem evaluateCeiling_straps : (evaluateCeiling s).straps = s.straps := by
  simp only [evaluateCeiling]; split <;> rfl
@[simp] theorem evaluateCeiling_chassis : (evaluateCeiling s).chassis = s.chassis := by
  simp only [evaluateCeiling]; split <;> rfl
@[simp] theorem evaluateCeiling_body : (evaluateCeiling s).body = s.body := by
  simp only [evaluateCeiling]; split <;> rfl
@[simp] theorem evaluateCeiling_bc : (evaluateCeiling s).bc = s.bc := by
  simp only [evaluateCeiling]; split <;> rfl
@[simp] theorem evaluateCeiling_cb : (evaluateCeiling s).cb = s.cb := by
  simp only [evaluateCeiling]; split <;> rfl
@[simp] theorem evaluateCeiling_places : (evaluateCeiling s).places = s.places := by
  simp only [evaluateCeiling]; split <;> rfl
@[simp] theorem evaluateCeiling_slots : (evaluateCeiling s).slots = s.slots := by
  simp only [evaluateCeiling]; split <;> rfl
@[simp] theorem evaluateCeiling_clock : (evaluateCeiling s).clock = s.clock := by
  simp only [evaluateCeiling]; split <;> rfl
@[simp] theorem evaluateCeiling_ctl : (evaluateCeiling s).ctl = s.ctl := by
  simp only [evaluateCeiling]; split <;> rfl
@[simp] theorem evaluateCeiling_tank : (evaluateCeiling s).tank = s.tank := by
  simp only [evaluateCeiling]; split <;> rfl
@[simp] theorem evaluateCeiling_tables : (evaluateCeiling s).tables = s.tables := by
  simp only [evaluateCeiling]; split <;> rfl
@[simp] theorem evaluateCeiling_engine : (evaluateCeiling s).engine = s.engine := by
  simp only [evaluateCeiling]; split <;> rfl
@[simp] theorem evaluateCeiling_freeNext : (evaluateCeiling s).freeNext = s.freeNext := by
  simp only [evaluateCeiling]; split <;> rfl

/-! ## emitLockout -/

@[simp] theorem emitLockout_pending : (emitLockout s).pending = s.pending := rfl
@[simp] theorem emitLockout_straps : (emitLockout s).straps = s.straps := rfl
@[simp] theorem emitLockout_chassis : (emitLockout s).chassis = s.chassis := rfl
@[simp] theorem emitLockout_body : (emitLockout s).body = s.body := rfl
@[simp] theorem emitLockout_bc : (emitLockout s).bc = s.bc := rfl
@[simp] theorem emitLockout_cb : (emitLockout s).cb = s.cb := rfl
@[simp] theorem emitLockout_slots : (emitLockout s).slots = s.slots := rfl
@[simp] theorem emitLockout_clock : (emitLockout s).clock = s.clock := rfl
@[simp] theorem emitLockout_ctl : (emitLockout s).ctl = s.ctl := rfl
@[simp] theorem emitLockout_tank : (emitLockout s).tank = s.tank := rfl
@[simp] theorem emitLockout_tables : (emitLockout s).tables = s.tables := rfl
@[simp] theorem emitLockout_engine : (emitLockout s).engine = s.engine := rfl
@[simp] theorem emitLockout_faults : (emitLockout s).faults = s.faults := rfl
@[simp] theorem emitLockout_freeNext : (emitLockout s).freeNext = s.freeNext := rfl

end Sys2Proof.Machine
end

