-- ==== Sys2Proof/Laws/Drive.lean ====
section
/-! SUPPORT. The frame of the Drive Interlock Controller and the Ceiling and Lockout Unit: whatever they do in an event,
they change only their own two records, the LOCKOUT place and the fault record. -/

namespace Sys2Proof.Machine

/-- From s to t only the controller, the ceiling unit, the LOCKOUT place and the fault record may have changed. -/
structure OnlyDrive (s t : State) : Prop where
  pending : t.pending = s.pending
  straps : t.straps = s.straps
  chassis : t.chassis = s.chassis
  body : t.body = s.body
  bc : t.bc = s.bc
  cb : t.cb = s.cb
  resp1 : t.places.resp1 = s.places.resp1
  resp2 : t.places.resp2 = s.places.resp2
  respOlder : t.places.respOlder = s.places.respOlder
  busy : t.places.busy = s.places.busy
  status : t.places.status = s.places.status
  level : t.places.level = s.places.level
  slots : t.slots = s.slots
  clock : t.clock = s.clock
  tank : t.tank = s.tank
  tables : t.tables = s.tables
  engine : t.engine = s.engine
  freeNext : t.freeNext = s.freeNext

theorem OnlyDrive.refl (s : State) : OnlyDrive s s := by constructor <;> rfl

theorem OnlyDrive.trans {s t u : State} (h : OnlyDrive s t) (g : OnlyDrive t u) : OnlyDrive s u :=
  ⟨g.pending.trans h.pending, g.straps.trans h.straps, g.chassis.trans h.chassis, g.body.trans h.body,
   g.bc.trans h.bc, g.cb.trans h.cb, g.resp1.trans h.resp1, g.resp2.trans h.resp2, g.respOlder.trans h.respOlder,
   g.busy.trans h.busy, g.status.trans h.status, g.level.trans h.level, g.slots.trans h.slots, g.clock.trans h.clock,
   g.tank.trans h.tank, g.tables.trans h.tables, g.engine.trans h.engine, g.freeNext.trans h.freeNext⟩

theorem OnlyDrive.port {s t : State} (h : OnlyDrive s t) (p : Port) : t.port p = s.port p := by
  cases p
  · exact h.chassis
  · exact h.body

theorem OnlyDrive.queue {s t : State} (h : OnlyDrive s t) (q : QueueId) : t.queue q = s.queue q := by
  cases q
  · exact h.bc
  · exact h.cb

/-- Either branch of a test keeps the frame. -/
theorem OnlyDrive.ite {s t u : State} {c : Prop} [Decidable c] (h : c → OnlyDrive s t) (g : ¬c → OnlyDrive s u) :
    OnlyDrive s (if c then t else u) := by
  split
  · exact h ‹_›
  · exact g ‹_›

variable (s : State)

theorem setCtl_onlyDrive (c : Controller) : OnlyDrive s (s.setCtl c) := by constructor <;> rfl

theorem report_onlyDrive (c : Cause) (i : Option Nat) : OnlyDrive s (report c i s) := by constructor <;> rfl

theorem setCeil_onlyDrive (u : CeilingUnit) : OnlyDrive s { s with ceil := u } := by constructor <;> rfl

theorem placeLockout_onlyDrive (f : Frame) : OnlyDrive s (placeLockout f s) := by constructor <;> rfl

theorem evaluateCeiling_onlyDrive : OnlyDrive s (evaluateCeiling s) := by
  constructor <;> simp

theorem emitLockout_onlyDrive : OnlyDrive s (emitLockout s) := by constructor <;> rfl

theorem changeContent_onlyDrive (c : Content) : OnlyDrive s (changeContent c s) := by
  cases c <;> constructor <;> rfl

theorem nameContent_onlyDrive (c : Content) : OnlyDrive s (nameContent c s) :=
  OnlyDrive.ite (fun _ => OnlyDrive.refl s) fun _ => changeContent_onlyDrive s c

theorem guardEffect_onlyDrive (f : Nat) : OnlyDrive s (guardEffect f s) := by
  unfold guardEffect
  split
  · exact setCeil_onlyDrive _ _
  · exact OnlyDrive.ite (fun _ => (setCeil_onlyDrive s _).trans (changeContent_onlyDrive _ _)) fun _ => OnlyDrive.refl s
  · exact OnlyDrive.refl s

theorem rewriteEffect_onlyDrive (r : FrameRecord) : OnlyDrive s (rewriteEffect r s) := by
  unfold rewriteEffect
  split
  · exact guardEffect_onlyDrive _ _
  · exact OnlyDrive.refl s

/-! ## Disengaging and its ends -/

theorem returnToRoad_onlyDrive : OnlyDrive s (returnToRoad s) :=
  (setCtl_onlyDrive s _).trans ((nameContent_onlyDrive _ _).trans (evaluateCeiling_onlyDrive _))

theorem testFaultHold_onlyDrive : OnlyDrive s (testFaultHold s) :=
  OnlyDrive.ite (fun _ => returnToRoad_onlyDrive s) fun _ => OnlyDrive.refl s

theorem enterFaultHold_onlyDrive : OnlyDrive s (enterFaultHold s) :=
  (setCtl_onlyDrive s _).trans
    ((nameContent_onlyDrive _ _).trans ((evaluateCeiling_onlyDrive _).trans (testFaultHold_onlyDrive _)))

theorem testD3_onlyDrive : OnlyDrive s (testD3 s) :=
  OnlyDrive.ite (fun _ => returnToRoad_onlyDrive s) fun _ => OnlyDrive.refl s

theorem enterD3_onlyDrive : OnlyDrive s (enterD3 s) :=
  (setCtl_onlyDrive s _).trans ((nameContent_onlyDrive _ _).trans (testD3_onlyDrive _))

theorem testD2_onlyDrive : OnlyDrive s (testD2 s) :=
  OnlyDrive.ite (fun _ => enterD3_onlyDrive s) fun _ => OnlyDrive.refl s

theorem enterD2_onlyDrive : OnlyDrive s (enterD2 s) :=
  (setCtl_onlyDrive s _).trans ((nameContent_onlyDrive _ _).trans (testD2_onlyDrive _))

theorem testD1_onlyDrive : OnlyDrive s (testD1 s) :=
  OnlyDrive.ite (fun _ => enterD2_onlyDrive s) fun _ => OnlyDrive.refl s

theorem enterDisengaging_onlyDrive (c : DisCause) : OnlyDrive s (enterDisengaging c s) :=
  (setCtl_onlyDrive s _).trans ((evaluateCeiling_onlyDrive _).trans (testD1_onlyDrive _))

theorem disengageFor_onlyDrive (c : Cause) (i : Option Nat) : OnlyDrive s (disengageFor c i s) :=
  (report_onlyDrive s c i).trans (enterDisengaging_onlyDrive _ _)

/-! ## Pumping, rolling and engaging -/

theorem testCreep_onlyDrive : OnlyDrive s (testCreep s) :=
  OnlyDrive.ite
    (fun _ => OnlyDrive.ite (fun _ => OnlyDrive.refl s) fun _ =>
      OnlyDrive.ite (fun _ => disengageFor_onlyDrive s _ _) fun _ => setCtl_onlyDrive s _)
    fun _ => setCtl_onlyDrive s _

theorem updateRollFlags_onlyDrive : OnlyDrive s (updateRollFlags s) := by
  have step (c : Prop) [Decidable c] (k : Cause) (t : State) : OnlyDrive t (if c then report k none t else t) :=
    OnlyDrive.ite (fun _ => report_onlyDrive t _ _) fun _ => OnlyDrive.refl t
  exact (setCtl_onlyDrive s _).trans ((step _ _ _).trans (step _ _ _))

theorem enterPump_onlyDrive : OnlyDrive s (enterPump s) :=
  (setCtl_onlyDrive s _).trans
    ((nameContent_onlyDrive _ _).trans ((evaluateCeiling_onlyDrive _).trans (testCreep_onlyDrive _)))

theorem enterRoll_onlyDrive : OnlyDrive s (enterRoll s) :=
  (setCtl_onlyDrive s _).trans
    ((setCeil_onlyDrive _ _).trans
      ((nameContent_onlyDrive _ _).trans ((updateRollFlags_onlyDrive _).trans (evaluateCeiling_onlyDrive _))))

theorem testMainC_onlyDrive : OnlyDrive s (testMainC s) :=
  OnlyDrive.ite (fun _ => enterPump_onlyDrive s) fun _ => OnlyDrive.refl s

theorem enterMainC_onlyDrive : OnlyDrive s (enterMainC s) :=
  (setCtl_onlyDrive s _).trans ((nameContent_onlyDrive _ _).trans (testMainC_onlyDrive _))

theorem enterMainB_onlyDrive : OnlyDrive s (enterMainB s) :=
  (setCtl_onlyDrive s _).trans
    ((nameContent_onlyDrive _ _).trans (OnlyDrive.ite (fun _ => enterMainC_onlyDrive _) fun _ => OnlyDrive.refl _))

theorem enterAuxB_onlyDrive : OnlyDrive s (enterAuxB s) :=
  (setCtl_onlyDrive s _).trans
    ((nameContent_onlyDrive _ _).trans (OnlyDrive.ite (fun _ => enterRoll_onlyDrive _) fun _ => OnlyDrive.refl _))

theorem testPhaseA_onlyDrive : OnlyDrive s (testPhaseA s) := by
  refine OnlyDrive.ite (fun _ => ?_) fun _ => OnlyDrive.refl s
  split
  · exact enterMainB_onlyDrive s
  · exact enterAuxB_onlyDrive s
  · exact OnlyDrive.refl s

theorem enterPhaseA_onlyDrive (a : AppState) : OnlyDrive s (enterPhaseA a s) := by
  have stale (t : State) : OnlyDrive t { t with places := { t.places with lockout := t.places.lockout.markStale } } := by
    constructor <;> rfl
  exact (setCtl_onlyDrive s _).trans
    ((stale _).trans
      ((nameContent_onlyDrive _ _).trans ((evaluateCeiling_onlyDrive _).trans (testPhaseA_onlyDrive _))))

/-! ## Events of the controller -/

theorem requestEvent_onlyDrive (r : Request) : OnlyDrive s (requestEvent r s) := by
  unfold requestEvent
  split <;> (try split) <;> (try split) <;>
    first
    | exact OnlyDrive.refl s
    | exact report_onlyDrive s _ _
    | exact enterPhaseA_onlyDrive s _
    | exact enterDisengaging_onlyDrive s _
    | exact testFaultHold_onlyDrive s

theorem takeRequestValue_onlyDrive (v : Int) : OnlyDrive s (takeRequestValue v s) := by
  refine OnlyDrive.ite (fun _ => OnlyDrive.refl s) fun _ => ?_
  split
  · exact OnlyDrive.refl s
  · exact OnlyDrive.ite (fun _ => setCtl_onlyDrive s _) fun _ =>
      OnlyDrive.ite (fun _ => OnlyDrive.refl s) fun _ => (setCtl_onlyDrive s _).trans (requestEvent_onlyDrive _ _)

theorem onRoadSpeed_onlyDrive : OnlyDrive s (onRoadSpeed s) := by
  unfold onRoadSpeed
  split <;> (try split) <;>
    first
    | exact OnlyDrive.refl s
    | exact disengageFor_onlyDrive s _ _
    | exact testCreep_onlyDrive s
    | exact updateRollFlags_onlyDrive s

theorem onEngineSpeed_onlyDrive : OnlyDrive s (onEngineSpeed s) := by
  unfold onEngineSpeed
  split <;>
    first
    | exact OnlyDrive.refl s
    | exact testPhaseA_onlyDrive s
    | exact testD1_onlyDrive s

theorem onCurrentRange_onlyDrive : OnlyDrive s (onCurrentRange s) := by
  unfold onCurrentRange
  split <;> (try split) <;>
    first
    | exact OnlyDrive.refl s
    | exact testPhaseA_onlyDrive s
    | exact testMainC_onlyDrive s
    | exact testD2_onlyDrive s
    | exact testFaultHold_onlyDrive s

theorem notify_onlyDrive (r : Role) (v : Option Int) : OnlyDrive s (notify r v s) := by
  unfold notify
  split <;> (try split) <;>
    first
    | exact OnlyDrive.refl s
    | exact onRoadSpeed_onlyDrive s
    | exact onEngineSpeed_onlyDrive s
    | exact onCurrentRange_onlyDrive s
    | exact takeRequestValue_onlyDrive s _

theorem onPark_onlyDrive : OnlyDrive s (onPark s) := by
  unfold onPark
  split <;> (try split) <;>
    first
    | exact OnlyDrive.refl s
    | exact disengageFor_onlyDrive s _ _
    | exact (setCtl_onlyDrive s _).trans (evaluateCeiling_onlyDrive _)
    | exact (setCtl_onlyDrive s _).trans ((report_onlyDrive _ _ _).trans (evaluateCeiling_onlyDrive _))

theorem roadFeedback_onlyDrive (i : Nat) (a : Bool) : OnlyDrive s (roadFeedback i a s) :=
  OnlyDrive.ite (fun _ => (setCtl_onlyDrive s _).trans (report_onlyDrive _ _ _)) fun _ =>
    OnlyDrive.ite (fun _ => setCtl_onlyDrive s _) fun _ => OnlyDrive.refl s

theorem onMainFb_onlyDrive : OnlyDrive s (onMainFb s) := by
  unfold onMainFb
  dsimp only
  split <;> (try split) <;> (try split) <;>
    first
    | exact OnlyDrive.refl s
    | exact roadFeedback_onlyDrive s _ _
    | exact disengageFor_onlyDrive s _ _
    | exact enterMainC_onlyDrive s
    | exact testD3_onlyDrive s
    | exact testFaultHold_onlyDrive s

theorem onAuxFb_onlyDrive : OnlyDrive s (onAuxFb s) := by
  unfold onAuxFb
  dsimp only
  split <;> (try split) <;> (try split) <;>
    first
    | exact OnlyDrive.refl s
    | exact roadFeedback_onlyDrive s _ _
    | exact disengageFor_onlyDrive s _ _
    | exact enterRoll_onlyDrive s
    | exact testD3_onlyDrive s
    | exact testFaultHold_onlyDrive s

theorem onLockoutSuccess_onlyDrive (b : Bool) : OnlyDrive s (onLockoutSuccess b s) := by
  unfold onLockoutSuccess
  split <;>
    first
    | exact OnlyDrive.refl s
    | exact (setCtl_onlyDrive s _).trans (testPhaseA_onlyDrive _)

theorem onPhaseTimer_onlyDrive : OnlyDrive s (onPhaseTimer s) := by
  unfold onPhaseTimer
  split <;>
    first
    | exact OnlyDrive.refl s
    | exact disengageFor_onlyDrive s _ _
    | exact (report_onlyDrive s _ _).trans (enterD2_onlyDrive _)
    | exact (report_onlyDrive s _ _).trans (enterD3_onlyDrive _)
    | exact (report_onlyDrive s _ _).trans (enterFaultHold_onlyDrive _)

theorem leaveUnloaded_onlyDrive : OnlyDrive s (leaveUnloaded s) := by
  have step (c : Prop) [Decidable c] (i : Option Nat) (t : State) :
      OnlyDrive t (if c then report .feedbackMismatch i t else t) :=
    OnlyDrive.ite (fun _ => report_onlyDrive t _ _) fun _ => OnlyDrive.refl t
  exact (setCtl_onlyDrive s _).trans
    ((nameContent_onlyDrive _ _).trans ((step _ _ _).trans ((step _ _ _).trans (evaluateCeiling_onlyDrive _))))

theorem onTablesTaken_onlyDrive : OnlyDrive s (onTablesTaken s) :=
  (setCtl_onlyDrive s _).trans (OnlyDrive.ite (fun _ => leaveUnloaded_onlyDrive _) fun _ => OnlyDrive.refl _)

theorem onInput_onlyDrive (i : InputId) : OnlyDrive s (onInput i s) := by
  cases i
  · exact onPark_onlyDrive s
  · exact onMainFb_onlyDrive s
  · exact onAuxFb_onlyDrive s

/-- The notifications of an event of a slot keep the frame. -/
theorem notifyRoles_onlyDrive (i : Fin 32) (v : Option Int) : OnlyDrive s (notifyRoles i v s) := by
  unfold notifyRoles
  generalize s.tables.active.roles.rolesAt i = l
  induction l generalizing s with
  | nil => exact OnlyDrive.refl s
  | cons r l ih => exact (notify_onlyDrive s r v).trans (ih _)

end Sys2Proof.Machine
end

