-- ==== Sys2Proof/Laws/Ops.lean ====
section
/-! SUPPORT. What each shared operation does, one lemma per case: reports, offers, moves, draining, local places, the
ceiling and the lockout content. -/

namespace Sys2Proof.Machine

variable (s : State)

/-! ## Reports (R177, R178) -/

theorem captureRule_empty (new : Capture) : captureRule none new = some new := rfl

theorem captureRule_higher {held new : Capture} (h : held.severity.code < new.severity.code) :
    captureRule (some held) new = some new := by simp [captureRule, h]

theorem captureRule_counted {held new : Capture} (h : new.severity.code ≤ held.severity.code) :
    captureRule (some held) new = some { held with suppressed := min 255 (held.suppressed + 1) } := by
  simp [captureRule, Nat.not_lt.mpr h]

theorem report_record (c : Cause) (i : Option Nat) :
    (report c i s).faults.record = captureRule s.faults.record ⟨c.severity, c, i, s.ctl.app, s.clock, 0⟩ := rfl

theorem report_flags (c : Cause) (i : Option Nat) : (report c i s).faults.flags = s.faults.flags ||| c.flag := rfl

/-! ## Offers (R27, R28) and moves (R29) -/

theorem offer_stopped {q : QueueId} (r : FrameRecord) (h : (s.port (destination q)).refusesFrames = true) :
    offer q r s = s.setQueue q { s.queue q with droppedStopped := (s.queue q).droppedStopped + 1 } := by
  simp [offer, h]

theorem offer_supersedes {q : QueueId} {r : FrameRecord} (h : (s.port (destination q)).refusesFrames = false)
    (m : (s.queue q).body.any r.supersedes = true) :
    offer q r s = s.setQueue q
      { s.queue q with body := supersedeIn r (s.queue q).body, superseded := (s.queue q).superseded + 1 } := by
  unfold offer
  rw [if_neg (by simp [h])]
  exact if_pos m

theorem offer_full {q : QueueId} {r : FrameRecord} (h : (s.port (destination q)).refusesFrames = false)
    (m : (s.queue q).body.any r.supersedes = false) (f : 16 ≤ (s.queue q).body.length) :
    offer q r s = report .queueOverflow (some (queueIndex q))
      (s.setQueue q { s.queue q with droppedFull := (s.queue q).droppedFull + 1 }) := by
  unfold offer
  rw [if_neg (by simp [h])]
  refine (if_neg (by rw [m]; decide)).trans (if_pos f)

theorem offer_enters {q : QueueId} {r : FrameRecord} (h : (s.port (destination q)).refusesFrames = false)
    (m : (s.queue q).body.any r.supersedes = false) (f : (s.queue q).body.length < 16) :
    offer q r s = s.setQueue q
      { s.queue q with body := (s.queue q).body ++ [r], entered := (s.queue q).entered + 1 } := by
  unfold offer
  rw [if_neg (by simp [h])]
  refine (if_neg (by rw [m]; decide)).trans (if_neg (Nat.not_le.mpr f))

/-- A record that is not latest-only supersedes nothing. -/
theorem supersedes_plain {r : FrameRecord} (h : r.latestOnly = false) (l : List FrameRecord) :
    l.any r.supersedes = false := by
  induction l with
  | nil => rfl
  | cons a l ih => simp [FrameRecord.supersedes, h]

theorem supersedeIn_length (r : FrameRecord) (l : List FrameRecord) : (supersedeIn r l).length = l.length := by
  induction l with
  | nil => rfl
  | cons a l ih => simp only [supersedeIn]; split <;> simp [ih]

theorem Queue.move_takes {u : Queue} {r : FrameRecord} {l : List FrameRecord} (h : u.out = none) (b : u.body = r :: l) :
    u.move = { u with out := some r, body := l } := by simp [Queue.move, h, b]

theorem Queue.move_occupied {u : Queue} {r : FrameRecord} (h : u.out = some r) : u.move = u := by
  simp [Queue.move, h]

theorem Queue.move_empty {u : Queue} (b : u.body = []) : u.move = u := by
  unfold Queue.move
  split
  · simp_all
  · rfl

/-! ## Draining (R42) -/

theorem settleDrained_stops {p : Port} (q : (s.port p).st = .quiescing) (d : s.drained p = true) :
    settleDrained p s = s.setPort p { s.port p with st := .stopped } := by simp [settleDrained, q, d]

theorem settleDrained_not_quiescing {p : Port} (q : (s.port p).st ≠ .quiescing) : settleDrained p s = s := by
  simp [settleDrained, q]

theorem settleDrained_not_drained {p : Port} (d : s.drained p = false) : settleDrained p s = s := by
  simp [settleDrained, d]

/-! ## Local places (R36, R37) -/

theorem Place.generate_refused (pl : Place) (m : Bool) (f : LocalFrame) : pl.generate true m f = pl := rfl

theorem Place.generate_waits (pl : Place) (f : LocalFrame) :
    pl.generate false true f = { pl with waiting := some f } := rfl

theorem Place.generate_replaces (pl : Place) (f : LocalFrame) : pl.generate false false f = ⟨some f, none⟩ := rfl

theorem Place.endAttempt_nothing {pl : Place} (h : pl.waiting = none) (b : Bool) : pl.endAttempt b = pl := by
  simp [Place.endAttempt, h]

theorem Place.endAttempt_takes {pl : Place} {f : LocalFrame} (h : pl.waiting = some f) :
    pl.endAttempt false = ⟨some f, none⟩ := by simp [Place.endAttempt, h]

theorem Place.endAttempt_discards {pl : Place} {f : LocalFrame} (h : pl.waiting = some f) :
    pl.endAttempt true = { pl with waiting := none } := by simp [Place.endAttempt, h]

/-! ## The ceiling (R109 to R112) -/

theorem moveCeiling_falls {e t r : Nat} (h : t < e) : moveCeiling e t r = t := by simp [moveCeiling, h]

theorem moveCeiling_rises {e t r : Nat} (h : e ≤ t) : moveCeiling e t r = min t (e + r) := by
  simp [moveCeiling, Nat.not_lt.mpr h]

theorem moveCeiling_to_zero (e r : Nat) : moveCeiling e 0 r = 0 := by
  unfold moveCeiling
  split <;> simp

theorem moveCeiling_le_target (e t r : Nat) : moveCeiling e t r ≤ t := by
  unfold moveCeiling
  split <;> simp

theorem target_le_base : s.target ≤ modeBase s.ctl.app s.tables.active.params := Nat.min_le_left _ _

theorem target_le_1000 : s.target ≤ 1000 := by
  refine (Nat.min_le_right _ _).trans ((Nat.min_le_left _ _).trans ?_)
  split <;> simp

theorem evaluateCeiling_e :
    (evaluateCeiling s).ceil.e = moveCeiling s.ceil.e s.target s.tables.active.params.rise := by
  simp only [evaluateCeiling]

theorem evaluateCeiling_protection : (evaluateCeiling s).ceil.protection = s.protectionHolds := by
  simp only [evaluateCeiling]

@[simp] theorem evaluateCeiling_content : (evaluateCeiling s).ceil.content = s.ceil.content := by
  simp only [evaluateCeiling]; split <;> rfl

@[simp] theorem evaluateCeiling_reassert : (evaluateCeiling s).ceil.reassert = s.ceil.reassert := by
  simp only [evaluateCeiling]; split <;> rfl

@[simp] theorem evaluateCeiling_lastRange : (evaluateCeiling s).ceil.lastRange = s.ceil.lastRange := by
  simp only [evaluateCeiling]; split <;> rfl

@[simp] theorem evaluateCeiling_timer : (evaluateCeiling s).ceil.timer = s.ceil.timer := by
  simp only [evaluateCeiling]; split <;> rfl

/-- The report of an evaluation: TANK_PROTECTION at an onset, else none (R110). -/
theorem evaluateCeiling_faults :
    (evaluateCeiling s).faults =
      if s.protectionHolds ∧ s.ceil.protection = false then (report .tankProtection none s).faults else s.faults := by
  simp only [evaluateCeiling]; split <;> rfl

/-! ## The lockout content (R119, R120) -/

theorem nameContent_same {c : Content} (h : s.ceil.content = c) : nameContent c s = s := by simp [nameContent, h]

theorem nameContent_change {c : Content} (h : s.ceil.content ≠ c) : nameContent c s = changeContent c s := by
  simp [nameContent, h]

/-- The content after a naming: NONE does not stand (R119). -/
theorem nameContent_content (c : Content) :
    (nameContent c s).ceil.content = if c = .none ∧ s.ceil.content ≠ .none then .notEmitting else c := by
  unfold nameContent
  split
  · simp_all
  · cases c <;> simp_all [changeContent, emitLockout]

@[simp] theorem nameContent_e (c : Content) : (nameContent c s).ceil.e = s.ceil.e := by
  unfold nameContent
  split
  · rfl
  · cases c <;> rfl

@[simp] theorem nameContent_lastRange (c : Content) : (nameContent c s).ceil.lastRange = s.ceil.lastRange := by
  unfold nameContent
  split
  · rfl
  · cases c <;> rfl

@[simp] theorem nameContent_protection (c : Content) : (nameContent c s).ceil.protection = s.ceil.protection := by
  unfold nameContent
  split
  · rfl
  · cases c <;> rfl

@[simp] theorem nameContent_timer (c : Content) : (nameContent c s).ceil.timer = s.ceil.timer := by
  unfold nameContent
  split
  · rfl
  · cases c <;> rfl

@[simp] theorem nameContent_ctl (c : Content) : (nameContent c s).ctl = s.ctl := by
  unfold nameContent
  split
  · rfl
  · cases c <;> rfl

@[simp] theorem nameContent_faults (c : Content) : (nameContent c s).faults = s.faults := by
  unfold nameContent
  split
  · rfl
  · cases c <;> rfl

/-! ## The lamp (R106) -/

@[simp] theorem Controller.setLamp_lamp (c : Controller) (l : Lamp) : (c.setLamp l).lamp = l := by
  cases l <;> simp only [Controller.setLamp]
  split <;> simp_all

theorem Controller.setLamp_keeps (c : Controller) (l : Lamp) :
    c.setLamp l = { c with
      lamp := (c.setLamp l).lamp, lampHigh := (c.setLamp l).lampHigh, flash := (c.setLamp l).flash } := by
  cases c
  cases l <;> simp only [Controller.setLamp]
  split <;> simp_all

end Sys2Proof.Machine
end

