-- ==== Sys2Proof/Laws/PerInstr.lean ====
section
/-! SUPPORT. Family Sendable: what a command that can be sent carries onto the link, a port takes as it stands. -/

namespace Sys2Proof.Laws.Sendable

open Sys2Proof.Machine

/-- The frame a command carries, where its operands hold one whole. -/
def carried : Instr → Option Frame
  | .frameArrival _ f => some f
  | .badRequest kind length data => some ⟨.extended, kind, 0, length, data⟩
  | _ => none

/-- A well-formed command's frame keeps its identifier, format, kind and data at its delivery, and has a length of at most 8,
which a data frame's bytes fill (R4). -/
def Statement (i : Instr) : Prop :=
  WellFormed i = true → ∀ f, carried i = some f →
    deliver f = { f with length := min f.length 8 } ∧ (f.kind = .data → f.data.length = min f.length 8)

/-- The identifier of a well-formed frame is left alone. -/
theorem ident_kept : ∀ (format : Format) (ident : Ident), format = .extended ∨ ident.toNat < 2048 →
    (match format with
      | .standard => ident &&& 0x7FF
      | .extended => ident) = ident := by
  intro format ident h
  cases format with
  | extended => rfl
  | standard =>
    have hlt : ident.toNat < 2048 := by simpa using h
    apply BitVec.eq_of_toNat_eq
    rw [BitVec.toNat_and]
    exact (Nat.and_two_pow_sub_one_eq_mod ident.toNat 11).trans (Nat.mod_eq_of_lt hlt)

/-- A well-formed frame is delivered as it stands. -/
theorem deliver_wellFormed {f : Frame} (h : f.wellFormed = true) :
    deliver f = { f with length := min f.length 8 } ∧ (f.kind = .data → f.data.length = min f.length 8) := by
  obtain ⟨format, kind, ident, length, data⟩ := f
  simp only [Frame.wellFormed, Bool.and_eq_true, Bool.or_eq_true, beq_iff_eq, decide_eq_true_eq] at h
  obtain ⟨⟨hi, -⟩, hd⟩ := h
  have hid := ident_kept format ident hi
  cases kind with
  | data =>
    have hl : data.length = min length 8 := by simpa using hd
    refine ⟨?_, fun _ => hl⟩
    simp [deliver, padBytes, hl]
    exact hid
  | remote =>
    have hn : data = [] := by simpa using hd
    subst hn
    exact ⟨by simp [deliver]; exact hid, fun h => nomatch h⟩

/-- A command that carries no frame of its own. -/
theorem of_none {i : Instr} (h : carried i = none) : Statement i := by
  intro _ f hf
  rw [h] at hf
  cases hf

theorem powerReset (straps : Straps) : Statement (.powerReset straps) := of_none rfl

theorem pinReset (straps : Straps) : Statement (.pinReset straps) := of_none rfl

theorem frameArrival (port : Port) (frame : Frame) : Statement (.frameArrival port frame) := by
  intro h f hf
  cases hf
  exact deliver_wellFormed h

theorem queueMove (queue : QueueId) : Statement (.queueMove queue) := of_none rfl

theorem attemptStart (port : Port) : Statement (.attemptStart port) := of_none rfl

theorem attemptSuccess (port : Port) : Statement (.attemptSuccess port) := of_none rfl

theorem attemptFailure (port : Port) : Statement (.attemptFailure port) := of_none rfl

theorem arbitrationLoss (port : Port) : Statement (.arbitrationLoss port) := of_none rfl

theorem recoveryTimerExpiry (port : Port) : Statement (.recoveryTimerExpiry port) := of_none rfl

theorem discretePinChange (input : InputId) (low : Bool) : Statement (.discretePinChange input low) := of_none rfl

theorem debouncedInputChange (input : InputId) : Statement (.debouncedInputChange input) := of_none rfl

theorem freshnessExpiry (slot : Fin 32) : Statement (.freshnessExpiry slot) := of_none rfl

theorem holdExpiry (slot : Fin 32) : Statement (.holdExpiry slot) := of_none rfl

theorem phaseTimerExpiry : Statement .phaseTimerExpiry := of_none rfl

theorem creepDetected : Statement .creepDetected := of_none rfl

theorem ceilingTimerExpiry : Statement .ceilingTimerExpiry := of_none rfl

theorem reassertionTimerExpiry : Statement .reassertionTimerExpiry := of_none rfl

theorem evaluationTimerExpiry (comp : Fin 4) : Statement (.evaluationTimerExpiry comp) := of_none rfl

theorem holdCountdownExpiry (comp : Fin 4) : Statement (.holdCountdownExpiry comp) := of_none rfl

theorem reportTimerExpiry : Statement .reportTimerExpiry := of_none rfl

theorem statusTimerExpiry : Statement .statusTimerExpiry := of_none rfl

theorem lampFlashToggle : Statement .lampFlashToggle := of_none rfl

theorem queryStatus (tag page : Byte) : Statement (.queryStatus tag page) := of_none rfl

theorem readSignal (tag slot : Byte) : Statement (.readSignal tag slot) := of_none rfl

theorem readCompartment (tag comp : Byte) : Statement (.readCompartment tag comp) := of_none rfl

theorem readTable (tag : Byte) (table : BitVec 3) (field : BitVec 5) (index bank : Byte) :
    Statement (.readTable tag table field index bank) := of_none rfl

theorem writeTable (tag : Byte) (table : BitVec 3) (field : BitVec 5) (index : Byte) (value : BitVec 32) :
    Statement (.writeTable tag table field index value) := of_none rfl

theorem copyActiveToShadow (tag : Byte) : Statement (.copyActiveToShadow tag) := of_none rfl

theorem activate (tag store : Byte) : Statement (.activate tag store) := of_none rfl

theorem validationCompletion : Statement .validationCompletion := of_none rfl

theorem storeEnd (equal : Bool) : Statement (.storeEnd equal) := of_none rfl

theorem powerUpLoadCompletion : Statement .powerUpLoadCompletion := of_none rfl

theorem probe (tag : Byte) (bank port format : BitVec 1) (modeClass : BitVec 3) (ident : BitVec 32) :
    Statement (.probe tag bank port format modeClass ident) := of_none rfl

theorem quiesce (tag port : Byte) : Statement (.quiesce tag port) := of_none rfl

theorem cut (tag port : Byte) : Statement (.cut tag port) := of_none rfl

theorem resume (tag port : Byte) : Statement (.resume tag port) := of_none rfl

theorem readCounter (tag group counter : Byte) : Statement (.readCounter tag group counter) := of_none rfl

theorem clearCounters (tag group : Byte) : Statement (.clearCounters tag group) := of_none rfl

theorem readFault (tag : Byte) : Statement (.readFault tag) := of_none rfl

theorem clearFault (tag : Byte) : Statement (.clearFault tag) := of_none rfl

theorem clearFlags (tag : Byte) (mask : BitVec 24) : Statement (.clearFlags tag mask) := of_none rfl

theorem restart (tag : Byte) : Statement (.restart tag) := of_none rfl

theorem restartCountdownExpiry : Statement .restartCountdownExpiry := of_none rfl

theorem frameClockTick : Statement .frameClockTick := of_none rfl

theorem badRequest (kind : FrameKind) (length : Nat) (data : List Byte) : Statement (.badRequest kind length data) := by
  intro h f hf
  cases hf
  simp only [WellFormed, Bool.and_eq_true] at h
  exact deliver_wellFormed h.1

end Sys2Proof.Laws.Sendable
end

