-- ==== Sys2Proof/Laws/Service.lean ====
section
/-! SUPPORT. A management request that is served at its arrival: its path through the intake is the same for every kind. -/

namespace Sys2Proof.Machine

open Sys2Proof.Safety

variable (s : State)

theorem padBytes_of_length {d : List Byte} (n : Nat) (h : d.length = n) : padBytes n d = d := by
  simp [padBytes, ← h]

/-- A request frame is delivered as it is. -/
theorem deliver_requestFrame (d : List Byte) (h : d.length ≤ 8) : deliver (s.requestFrame d) = s.requestFrame d := by
  simp [deliver, State.requestFrame, Nat.min_eq_left h, padBytes]

theorem diverts_request (f : Frame) (h : f.format = .extended) (i : f.ident = s.nodeIdent 0x0C5AA100) :
    s.diverts .body f = true := by simp [State.diverts, h, i]

/-- With no request in a buffer no service begins. -/
theorem serveNext_idle (x : s.engine.bufX = none) (y : s.engine.bufY = none) : serveNext s = s := by
  simp [serveNext, Engine.oldest, x, y]

theorem serveWaiting_idle (x : s.engine.bufX = none) (y : s.engine.bufY = none) : serveWaiting s = s := by
  simp [serveWaiting, serveNext_idle s x y]

@[simp] theorem settleDrained_engine (p : Port) : (settleDrained p s).engine = s.engine := by
  unfold settleDrained; split <;> simp

@[simp] theorem serveQuiesce_engine (p : Port) : (serveQuiesce p s).1.engine = s.engine := by
  unfold serveQuiesce; dsimp only; repeat' split
  all_goals simp

@[simp] theorem serveCut_engine (p : Port) : (serveCut p s).1.engine = s.engine := by
  unfold serveCut cutPort; dsimp only; split <;> simp

@[simp] theorem serveResume_engine (p : Port) : (serveResume p s).1.engine = s.engine := by
  unfold serveResume; dsimp only; split <;> simp

/-- Serving a request leaves the intake buffers alone. -/
theorem serveKind_buffers (f : Frame) (place : RespPlace) :
    (serveKind f place s).1.engine.bufX = s.engine.bufX ∧ (serveKind f place s).1.engine.bufY = s.engine.bufY := by
  unfold serveKind
  dsimp only
  split
  case h_5 => unfold serveWriteTable; dsimp only; repeat' split
              all_goals exact ⟨rfl, rfl⟩
  case h_7 => unfold serveActivate; repeat' split
              all_goals exact ⟨rfl, rfl⟩
  case h_9 => unfold servePortControl; repeat' split
              all_goals simp
  case h_11 => unfold serveClearCounters; split <;> exact ⟨rfl, rfl⟩
  case h_15 => unfold serveRestart; split <;> exact ⟨rfl, rfl⟩
  all_goals exact ⟨rfl, rfl⟩

theorem serveRequest_buffers (f : Frame) (place : RespPlace) :
    (serveRequest f place s).engine.bufX = s.engine.bufX
      ∧ (serveRequest f place s).engine.bufY = s.engine.bufY := by
  have h := serveKind_buffers s f place
  unfold serveRequest
  split
  · exact ⟨rfl, rfl⟩
  · split
    · rename_i e; rw [e] at h; exact h
    · rename_i e; rw [e] at h; exact h

/-- One request in a buffer of a part that is ready begins its service, in the first RESPONSE place. -/
theorem serveNext_ready {s : State} (h : ReadyToServe s) (b : Buffer) (f : Frame) :
    serveNext { s with engine := { s.engine.setBuf b (some f) with lastFilled := b } }
      = serveRequest f .first { s with engine := { s.engine with lastFilled := b } } := by
  obtain ⟨pending, straps, chassis, body, bc, cb, places, slots, clock, ctl, ceil, tank, tables, engine, faults,
    freeNext⟩ := s
  obtain ⟨bufX, bufY, lastFilled, inService, restart, busyDropped, statusTimer, nextPage⟩ := engine
  obtain ⟨-, hx, hy, hi, hl, hr, hp⟩ := h
  dsimp only at hx hy hi hl hr hp
  subst hx hy hi hr
  cases b <;> simp [serveNext, Engine.setBuf, Engine.oldest, State.mayServe, Places.freeResp, hl, hp]

/-- A diverted frame taken into the intake of a part that is ready is served at once, in the first RESPONSE place. -/
theorem intake_ready {s : State} (h : ReadyToServe s) (f : Frame) :
    intake f s = serveRequest f .first
      { s with engine := { s.engine with lastFilled := if s.engine.lastFilled = .x then .y else .x } } := by
  have idle (b : Buffer) : serveNext (serveRequest f .first { s with engine := { s.engine with lastFilled := b } })
      = serveRequest f .first { s with engine := { s.engine with lastFilled := b } } := by
    have hb := serveRequest_buffers { s with engine := { s.engine with lastFilled := b } } f .first
    exact serveNext_idle _ (hb.1.trans h.bufX) (hb.2.trans h.bufY)
  have target : s.engine.fillTarget = some (if s.engine.lastFilled = .x then .y else .x) := by
    unfold Engine.fillTarget
    cases s.engine.lastFilled <;> simp [h.bufX, h.bufY]
  unfold intake
  rw [target]
  exact (congrArg serveNext (serveNext_ready h _ f)).trans (idle _)

/-- The Body Port reports a diverted frame in every state but BUS_FAULT (R5, R43). -/
theorem reports_request {r : PortRec} (h : r.st ≠ .busFault) : r.reports .body true = true := by
  unfold PortRec.reports
  split <;> simp_all

/-- A request frame that reaches a part that is ready is counted and served within its arrival. -/
theorem arrive_ready {s : State} (h : ReadyToServe s) (f : Frame) (e : f.format = .extended)
    (i : f.ident = s.nodeIdent 0x0C5AA100) : arrive .body f s = serveRequest f .first (tookRequest s) := by
  have hd := diverts_request s f e i
  have hr : (s.port .body).reports .body true = true := reports_request h.receives
  have ready : ReadyToServe (s.setPort .body
      { s.port .body with
        run := 0, arrivals := (s.port .body).arrivals + 1, mgmtArrivals := (s.port .body).mgmtArrivals + 1 }) :=
    ⟨h.receives, h.bufX, h.bufY, h.idle, h.loaded, h.running, h.place⟩
  simp only [arrive, hd, hr, if_true]
  rw [intake_ready ready f]
  rfl

/-- The arrival of a request with given data at a part that is ready (R5, R163, R165). -/
theorem requestArrival_ready {s : State} (h : ReadyToServe s) (d : List Byte) (hd : d.length ≤ 8) :
    requestArrival d s = serveRequest (s.requestFrame d) .first (tookRequest s) := by
  unfold requestArrival
  rw [deliver_requestFrame s d hd]
  exact arrive_ready h _ rfl rfl

end Sys2Proof.Machine
end

