-- ==== Sys2Proof/Laws/Terms.lean ====
section
/-! SUPPORT. The operations of the model equal the terms of Safety.lean in which the statements speak. -/

namespace Sys2Proof.Laws.Terms

open Sys2Proof.Machine Sys2Proof.Safety

/-! ## Attempts and places (R33, R35, R37, R42) -/

theorem settleDrained_eq (p : Port) (s : State) : settleDrained p s = stopIfDrained p s := by
  unfold settleDrained stopIfDrained State.drained Place.isEmpty
  dsimp only
  congr 1
  apply propext
  obtain ⟨_, _, _, _, _, _, ⟨⟨c, w⟩, _, _, _, _, ⟨c2, w2⟩, ⟨c3, w3⟩⟩, _, _, _, _, _, _, _, _, _⟩ := s
  cases p <;> simp [and_assoc]

theorem setAt_none_endAttempt (b : Bool) (pl : Places) (src : Source) (h : src ≠ .output) :
  (pl.setAt src none).endAttempt src b = vacated b pl src := by
  obtain ⟨⟨a1,a2⟩,b1,b2,o,bu,⟨c1,c2⟩,⟨d1,d2⟩⟩ := pl
  rcases src with _ | pp | _ | _ | _ | _ <;> try (cases pp)
  all_goals simp_all [Places.setAt, Places.endAttempt, vacated, Place.endAttempt, Places.setResp]
  · cases a2 <;> cases b <;> rfl
  · cases c2 <;> cases b <;> rfl
  · cases d2 <;> cases b <;> rfl

theorem endAttempt_eq_kept (b : Bool) (pl : Places) (src : Source) :
  pl.endAttempt src b = kept b pl src := by
  obtain ⟨⟨a1,a2⟩,b1,b2,o,bu,⟨c1,c2⟩,⟨d1,d2⟩⟩ := pl
  rcases src with _ | pp | _ | _ | _ | _ <;> try (cases pp)
  all_goals simp_all [Places.endAttempt, kept, Place.endAttempt, settled]
  · cases a2 <;> cases b <;> rfl
  · cases c2 <;> cases b <;> rfl
  · cases d2 <;> cases b <;> rfl

/-! ## The ceiling and the disengaging (R98, R112) -/

theorem evaluateCeiling_holdsDown (s : State) (h : holdsDown s.ctl.app = true) :
    evaluateCeiling s = { s with ceil := { s.ceil with e := 0, protection := false } } := by
  have p : s.protectionHolds = false := by
    unfold State.protectionHolds; cases ha : s.ctl.app <;> simp_all [holdsDown]
  have tt : s.target = 0 := by
    unfold State.target; cases ha : s.ctl.app <;> simp_all [holdsDown, modeBase]
  simp [evaluateCeiling, p, tt, moveCeiling_to_zero]

theorem enterDisengaging_eq (c : DisCause) (s : State) : enterDisengaging c s = testD1 (disengagingFrom c s) := by
  simp only [enterDisengaging]
  rw [evaluateCeiling_holdsDown _ (by rfl)]
  have hp : (AppState.disengaging == .pump) = false := by decide
  have hr : (AppState.disengaging == .roll) = false := by decide
  have hd : (AppState.disengaging == .road) = false := by decide
  simp [State.setCtl, Controller.setLamp, Controller.changeApp, Controller.outputOrigin, phaseLoad, disengagingFrom,
    hp, hr, hd]

theorem drivetrain_reads (s t : State) (h1 : t.slots = s.slots) (h2 : t.tables = s.tables) :
    t.engineSlow = s.engineSlow ∧ t.rangeNeutral = s.rangeNeutral := by
  constructor
  · simp [State.engineSlow, State.usableAtMost, State.usable, h1, h2]
  · unfold State.rangeNeutral State.usableIs State.usable; rw [h1, h2]

theorem enterDisengaging_not_slow (c : DisCause) (s : State) (h : s.engineSlow = false) :
    enterDisengaging c s = disengagingFrom c s := by
  rw [enterDisengaging_eq]; unfold testD1
  have := (drivetrain_reads s (disengagingFrom c s) rfl rfl).1
  rw [this, h]; simp

/-! ## Phases that end at their entry (R78, R98 to R102) -/

theorem placeLockout_eq (f : Frame) (s : State) : placeLockout f s =
    { s with places := { s.places with lockout := generated s.chassis .lockout f s.places.lockout } } := by
  unfold placeLockout generated Place.generate PortRec.refusesFrames PortRec.attempting newLocal
  rcases h : s.chassis.st <;> rcases ha : s.chassis.attempt <;> simp

theorem nameNeutral_eq (s : State) : nameContent .holdNeutral s = holdingNeutral s := by
  unfold nameContent holdingNeutral
  split
  · rfl
  · simp only [changeContent, emitLockout, placeLockout_eq]; rfl

theorem holdingNeutral_content (s : State) : (holdingNeutral s).ceil.content = .holdNeutral := by
  unfold holdingNeutral; split <;> simp_all

@[simp] theorem holdingNeutral_ctl (s : State) : (holdingNeutral s).ctl = s.ctl := by
  unfold holdingNeutral; split <;> rfl

@[simp] theorem holdingNeutral_rangeNeutral (s : State) : (holdingNeutral s).rangeNeutral = s.rangeNeutral := by
  unfold holdingNeutral; split <;> rfl
@[simp] theorem holdingNeutral_feedbacksClear (s : State) : (holdingNeutral s).feedbacksClear = s.feedbacksClear := by
  unfold holdingNeutral; split <;> rfl

theorem evaluateCeiling_road (s : State) (h : s.ctl.app = .road) (g : s.ctl.guard = false) (o : s.ctl.overspeed = false)
    (a : s.ctl.speedAbsent = false) :
    evaluateCeiling s = { s with ceil := { s.ceil with
      e := min 1000 (s.ceil.e + s.tables.active.params.rise), protection := false } } := by
  have p : s.protectionHolds = false := by simp [State.protectionHolds, h]
  have t : s.target = 1000 := by simp [State.target, h, g, o, a, p, modeBase]
  unfold evaluateCeiling
  simp only [p, t, moveCeiling, false_and, if_false, Bool.false_eq_true]
  congr 2
  split <;> omega

theorem returnToRoad_eq (s : State) (h : s.ctl.mismatch = false) (c : s.ceil.content = .holdNeutral) :
    returnToRoad s = backInRoad s := by
  unfold returnToRoad
  simp only [nameContent, State.setCtl_ceil, c, reduceCtorEq, if_false, changeContent, placeLockout_eq]
  rw [evaluateCeiling_road] <;> simp [Controller.changeApp, h, Controller.setLamp, State.setCtl]
  unfold backInRoad Params.rise
  simp [State.lockoutFrame, State.contentRange, Content.lockCode, h]

theorem testFaultHold_eq (s : State) (h : s.ctl.mismatch = false) (c : s.ceil.content = .holdNeutral) :
    testFaultHold s =
      if s.ctl.lastReq = some .road ∧ s.feedbacksClear = true ∧ s.rangeNeutral = true then backInRoad s else s := by
  unfold testFaultHold State.faultHoldOver
  rw [returnToRoad_eq s h c]
  simp [and_assoc]

/-- Two tests of one condition agree where their outcomes agree while it holds. -/
theorem ite_same {α : Type} {b : Bool} {x y z : α} (h : b = true → x = y) :
    (if b = true then x else z) = if b = true then y else z := by
  split
  · exact h ‹_›
  · rfl

theorem enterD3_eq (s : State) (h : s.ctl.mismatch = false ∨ s.feedbacksClear = false) : enterD3 s = inD3 s := by
  unfold enterD3 inD3 testD3
  simp only [nameNeutral_eq]
  refine ite_same fun g => returnToRoad_eq _ ?_ (holdingNeutral_content _)
  rw [holdingNeutral_feedbacksClear] at g
  rw [holdingNeutral_ctl]
  exact h.resolve_right fun k => Bool.noConfusion (k.symm.trans g)

theorem enterD2_eq (s : State) (h : s.ctl.mismatch = false ∨ s.rangeNeutral = false) : enterD2 s = inD2 s := by
  unfold enterD2 inD2 testD2
  simp only [nameNeutral_eq]
  refine ite_same fun g => enterD3_eq _ (.inl ?_)
  rw [holdingNeutral_rangeNeutral] at g
  rw [holdingNeutral_ctl]
  exact h.resolve_right fun k => Bool.noConfusion (k.symm.trans g)

theorem enterDisengaging_through (c : DisCause) (s : State) : enterDisengaging c s = disengagingThrough c s := by
  rw [enterDisengaging_eq]
  unfold testD1 disengagingThrough
  simp only [enterD2_eq (disengagingFrom c s) (.inl rfl)]

/-! ## Engagements (R88, R92, R94, R95, R97) -/

theorem evaluateCeiling_keeps (s : State) :
    (evaluateCeiling s).slots = s.slots ∧ (evaluateCeiling s).tables = s.tables ∧ (evaluateCeiling s).ctl = s.ctl := by
  unfold evaluateCeiling
  dsimp only
  split <;> exact ⟨rfl, rfl, rfl⟩

/-- A state that has the slots and tables of another reads every role alike. -/
theorem role_reads {s t : State} (h1 : t.slots = s.slots) (h2 : t.tables = s.tables) (r : Role) :
    t.usable r = s.usable r ∧ t.present r = s.present r := by
  unfold State.usable State.present
  rw [h1, h2]
  exact ⟨rfl, rfl⟩

/-- A creep test, with no creep timer running (R95). -/
theorem testCreep_stopped (s : State) (h : s.ctl.creep = none) :
    testCreep s = match s.usable .roadSpeed with
      | none => s
      | some v =>
        if v ≤ s.tables.active.params.creepLimit then s
        else if 0 < s.tables.active.params.creepTime then
          { s with ctl := { s.ctl with creep := some s.tables.active.params.creepTime } }
        else disengagingThrough (.cause .creepDetected) (report .creepDetected none s) := by
  have stays : s.setCtl { s.ctl with creep := none } = s := by unfold State.setCtl; rw [← h]
  unfold testCreep State.usableAbove disengageFor
  rw [stays]
  cases s.usable .roadSpeed with
  | none => rfl
  | some v =>
    by_cases g : v ≤ (s.tables.active.params.creepLimit : Int)
    · simp only [if_pos g, decide_eq_true_eq, if_neg (Int.not_lt.mpr g)]
    · simp only [if_neg g, decide_eq_true_eq, if_pos (Int.not_le.mp g), h, enterDisengaging_through, State.setCtl]
      by_cases z : 0 < s.tables.active.params.creepTime
      · simp [z, Nat.ne_of_gt z]
      · simp [Nat.eq_zero_of_not_pos z]

theorem enterPump_eq (s : State) (c : s.ceil.content = .holdPump) (g : s.ctl.guard = false) (k : s.ctl.creep = none) :
    enterPump s = inPump s := by
  let d : State := { s with ctl := { s.ctl with
    app := .pump, phase := .none, phaseTimer := none, mainShift := true, auxClutch := false, creep := none
    overspeed := false, speedAbsent := false, mismatch := false, lamp := .on, lampHigh := true, flash := none } }
  have b2 : (AppState.pump == AppState.roll) = false := by decide
  have b3 : (AppState.pump == AppState.road) = false := by decide
  have e : enterPump s = testCreep (evaluateCeiling (nameContent .holdPump d)) := by
    simp [d, enterPump, State.setCtl, Controller.changeApp, Controller.setLamp, g, k, b2, b3]
  obtain ⟨e1, e2, e3⟩ := evaluateCeiling_keeps d
  rw [e, nameContent_same _ (by exact c), testCreep_stopped _ (by rw [e3]), (role_reads e1 e2 _).1,
    congrArg (·.active.params) e2]
  rfl

theorem nameHoldPump_eq (s : State) (c : s.ceil.content ≠ .holdPump) :
    nameContent .holdPump s = { s with
      ceil := { s.ceil with content := .holdPump, reassert := some s.tables.active.params.reassertLoad }
      places := { s.places with lockout := (generated s.chassis .lockout
        (s.tables.active.template.form 2 s.tables.active.params.pumpRange) s.places.lockout) } } := by
  rw [nameContent_change _ (by exact c)]
  simp only [changeContent, emitLockout, placeLockout_eq]
  rfl

theorem enterMainC_eq (s : State) (c : s.ceil.content ≠ .holdPump) (g : s.ctl.guard = false) (k : s.ctl.creep = none) :
    enterMainC s = inMainC s := by
  unfold enterMainC inMainC testMainC
  dsimp only
  rw [nameHoldPump_eq _ (by exact c)]
  by_cases u : s.usable .currentRange = some (s.tables.active.params.pumpRange : Int)
  · rw [if_pos u, if_pos (by exact decide_eq_true u)]
    exact enterPump_eq _ (by rfl) (by exact g) (by exact k)
  · rw [if_neg u, if_neg (by exact fun h => u (of_decide_eq_true h))]
    rfl

theorem updateRollFlags_clear (s : State) (o : s.ctl.overspeed = false) (a : s.ctl.speedAbsent = false) :
    updateRollFlags s = match s.present .roadSpeed with
      | none => report .speedAbsentRolling none { s with ctl := { s.ctl with overspeed := false, speedAbsent := true } }
      | some v =>
        if v ≤ s.tables.active.params.rollSpeedLimit then
          { s with ctl := { s.ctl with overspeed := false, speedAbsent := false } }
        else report .rollOverspeed none { s with ctl := { s.ctl with overspeed := true, speedAbsent := false } } := by
  unfold updateRollFlags
  cases s.present .roadSpeed with
  | none => simp [a, State.setCtl]
  | some v =>
    by_cases g : v ≤ (s.tables.active.params.rollSpeedLimit : Int)
    · simp [g, Int.not_lt.mpr g, State.setCtl]
    · simp [g, Int.not_le.mp g, o, State.setCtl]

theorem enterRoll_eq (s : State) (c : s.ceil.content ≠ .restrict) (o : s.ctl.overspeed = false)
    (a : s.ctl.speedAbsent = false) : enterRoll s = inRoll s := by
  have b2 : (AppState.roll == AppState.pump) = false := by decide
  have b3 : (AppState.roll == AppState.road) = false := by decide
  unfold enterRoll inRoll
  dsimp only
  rw [nameContent_change _ (by exact c)]
  simp only [changeContent, emitLockout, placeLockout_eq]
  rw [updateRollFlags_clear _ (by simp [State.setCtl, Controller.changeApp, Controller.setLamp, o])
    (by simp [State.setCtl, Controller.changeApp, Controller.setLamp, a])]
  simp only [State.setCtl, Controller.changeApp, Controller.setLamp, b2, b3, Bool.and_false]
  rfl

/-! ## Slot events and their notifications (R20, R58 to R62, R66) -/

theorem notifyRoles_eq (i : Fin 32) (v : Option Int) (s : State) : notifyRoles i v s = notified i v s := by
  unfold notifyRoles notified RoleMap.rolesAt RoleMap.get
  dsimp only
  by_cases h1 : s.tables.active.roles.roadSpeed = some i <;> by_cases h2 : s.tables.active.roles.engineSpeed = some i <;>
    by_cases h3 : s.tables.active.roles.currentRange = some i <;> by_cases h4 : s.tables.active.roles.modeRequest = some i <;>
    simp [h1, h2, h3, h4]

theorem fits_iff (f : Field) (n : Nat) : f.fits n = true ↔ WithinData f n := by
  unfold Field.fits WithinData; rcases h : f.order <;> simp

theorem takeGood_eq (x : Slot) (d : SlotDef) (clock : Clock) (eng : Int) :
    x.takeGood d clock eng = goodSlot d clock eng x := by
  unfold Slot.takeGood goodSlot SlotDef.freshLoad
  simp only [Nat.add_lt_iff_lt_sub_right]

theorem takeError_eq (x : Slot) (d : SlotDef) : x.takeError d = errorSlot d x := by
  unfold Slot.takeError errorSlot Slot.startHold SlotDef.holdLoad statusAfterError
  by_cases hh : 255 ≤ x.hc + d.errorStep
  · rcases hs : x.status <;> by_cases hr : x.recovery = 0 <;> simp [hr, hh]
  · have h2 : min 255 (x.hc + d.errorStep) = x.hc + d.errorStep := by omega
    have h3 : x.hc + d.errorStep ≠ 255 := by omega
    rcases hs : x.status <;> by_cases hr : x.recovery = 0 <;> simp [hr, hh, h2, h3]
    all_goals (by_cases h4 : x.hc + d.errorStep < 64 <;> simp [h4, Nat.not_le.mpr, Nat.not_lt.mp])

/-- A good update that does not leave the slot LOST makes it usable (R61, R62, R64). -/
theorem goodSlot_usable (x : Slot) (d : SlotDef) (clock : Clock) (eng : Int) :
    (goodSlot d clock eng x).usable = if (goodSlot d clock eng x).status = .lost then none else some eng := by
  unfold goodSlot Slot.usable
  by_cases h : x.status = .lost
  · by_cases g : x.recovery < 7 <;> simp [h, g]
  · by_cases g : x.hc - 1 < 64 <;> simp [h, g]

/-- What an extractor delivers, graded (R20, R53 to R56). -/
theorem grade_update (d : SlotDef) (x : Extractor) (f : Frame) :
    d.grade (x.update f)
      = if WithinData x.field f.length then d.grade (.raw (readField x.field f.data) x.field.width) else none := by
  unfold Extractor.update
  by_cases h : WithinData x.field f.length
  · rw [if_pos ((fits_iff _ _).mpr h), if_pos h]
  · rw [if_neg (fun g => h ((fits_iff _ _).mp g)), if_neg h]; rfl

theorem updateEvent_eq (x : Extractor) (f : Frame) (s : State) :
    updateEvent x.slot (x.update f) s = extracted f.length f.data s x := by
  unfold updateEvent extracted
  rw [grade_update]
  dsimp only
  generalize (if WithinData x.field f.length then
    s.tables.active.sdt[x.slot].grade (.raw (readField x.field f.data) x.field.width) else none) = o
  cases o with
  | none => simp [slotError, notifyRoles_eq, takeError_eq, Slot.entersLost, State.setSlot]
  | some eng =>
    simp only [notifyRoles_eq, takeGood_eq, State.setSlot]
    rw [goodSlot_usable]
    congr 1
    split <;> simp

/-! ## Offers (R27, R28) -/

theorem supersedes_iff (r old : FrameRecord) : r.supersedes old = decide (Rivals r old) := by
  unfold FrameRecord.supersedes Rivals
  rw [Bool.eq_iff_iff]
  simp only [Bool.and_eq_true, beq_iff_eq, decide_eq_true_eq, and_assoc, eq_comm (a := old.ident), eq_comm (a := old.format)]

theorem supersedeIn_eq (r : FrameRecord) (l : List FrameRecord) (h : ∃ old ∈ l, Rivals r old) :
    supersedeIn r l = l.modify (l.findIdx fun old => decide (Rivals r old))
      fun old => { r with kind := old.kind, attempts := 0 } := by
  induction l with
  | nil => simp at h
  | cons a l ih =>
    unfold supersedeIn
    rw [supersedes_iff]
    by_cases g : Rivals r a
    · simp [List.findIdx_cons, g, FrameRecord.replaceBy]
    · have : ∃ old ∈ l, Rivals r old := by
        obtain ⟨o, ho, hr⟩ := h
        rcases List.mem_cons.mp ho with rfl | ho
        · exact absurd hr g
        · exact ⟨o, ho, hr⟩
      simp only [List.findIdx_cons, g, ih this]
      simp

theorem offer_eq (q : QueueId) (r : FrameRecord) (s : State) : offer q r s = offered q r s := by
  unfold offer offered takenBy
  dsimp only
  by_cases h : (s.port (destination q)).refusesFrames = true
  · simp [h]
  · have e : (s.queue q).body.any r.supersedes = decide (∃ old ∈ (s.queue q).body, Rivals r old) := by
      rw [Bool.eq_iff_iff]; simp [supersedes_iff]
    rw [if_neg h, e]
    by_cases g : ∃ old ∈ (s.queue q).body, Rivals r old
    · simp only [g, h, decide_true, if_true, and_self, supersedeIn_eq _ _ g]
    · simp only [g, h, decide_false, if_false, and_false]
      by_cases k : 16 ≤ (s.queue q).body.length
      · simp [k, Nat.not_lt.mpr k]
      · simp [k, Nat.not_le.mp k]

/-! ## Tank gauging (R130, R134) -/

theorem filterNext_eq (f16 : Option Nat) (l k : Nat) : filterNext f16 l k = filtered f16 l k := by
  cases f16 with
  | none => rfl
  | some f =>
    have hp : ((2 : Int) ^ k) = ((2 ^ k : Nat) : Int) := by push_cast; rfl
    simp only [filterNext, filtered, filterStep, hp]
    rcases Nat.lt_trichotomy f (16 * l) with h | h | h
    · have e : (16 * (l : Int) - f) = ((16 * l - f : Nat) : Int) := by omega
      rw [if_pos h, e, ← Int.ofNat_tdiv]
      generalize (16 * l - f) / 2 ^ k = q
      split <;> (try split) <;> omega
    · have e : (16 * (l : Int) - f) = 0 := by omega
      rw [e, if_neg (show ¬f < 16 * l by omega), if_neg (show ¬16 * l < f by omega)]
      simp
    · have e : (16 * (l : Int) - f) = -((f - 16 * l : Nat) : Int) := by omega
      rw [if_neg (show ¬f < 16 * l by omega), if_pos h, e, Int.neg_tdiv, ← Int.ofNat_tdiv]
      have : (f - 16 * l) / 2 ^ k ≤ f - 16 * l := Nat.div_le_self _ _
      generalize (f - 16 * l) / 2 ^ k = q at *
      split <;> (try split) <;> omega

theorem senderLevels_eq (e : CompEntry) (slots : Vector Slot 32) : senderLevels e slots = usableLevels e slots := by
  unfold senderLevels usableLevels CompEntry.senderList
  congr 1
  funext x
  simp only [Slot.usable, clampInt]
  rcases hst : slots[x.slot].status <;> rcases hv : slots[x.slot].value <;> simp <;> (split <;> (try split) <;> omega)

/-! ## Bytes of the layouts (R181, R182) -/

theorem be16_toNat (x : BitVec 16) : be16 x.toNat = bytes16 x := by
  simp only [be16, bytes16]
  congr 1
  · apply BitVec.eq_of_toNat_eq; simp [Nat.shiftRight_eq_div_pow]

theorem be16_ofNat (n : Nat) : be16 n = bytes16 (BitVec.ofNat 16 n) := by
  simp only [be16, bytes16]
  congr 1
  · apply BitVec.eq_of_toNat_eq; simp [Nat.shiftRight_eq_div_pow]
    try omega
  · congr 1; apply BitVec.eq_of_toNat_eq; simp

theorem be32_eq (x : BitVec 32) : be32 x = bytes32 x := by
  simp only [be32, bytes32]
  congr 1
  · apply BitVec.eq_of_toNat_eq; simp [Nat.shiftRight_eq_div_pow]
  congr 1
  · apply BitVec.eq_of_toNat_eq; simp [Nat.shiftRight_eq_div_pow]
  congr 1
  · apply BitVec.eq_of_toNat_eq; simp [Nat.shiftRight_eq_div_pow]

end Sys2Proof.Laws.Terms
end

