-- ==== Sys2Proof/Tests/Slice0.lean ====
section
/-! SUPPORT. Tests: well-formedness, the manual's worked values one step at a time, and for every obligation with hypotheses
a state and operands that meet them. Expected values come from the worked sequences of the spec, named at each test. -/

namespace Sys2Proof.Tests

set_option Elab.async false

open Sys2Proof.Machine Sys2Proof.Safety

/-! ## Helpers: the bank of the worked sequences (01 section 1.6, 05 section 5.6, 06 section 6.7) and small states -/

def low (start width : Nat) : Field := ⟨start, width, .lowFirst⟩
def high (start width : Nat) : Field := ⟨start, width, .highFirst⟩

def clampEntry : FctEntry := { clearedEntry with
  enabled := true, ports := .body, format := .extended, base := 0x18F00310, mask := 0xFF, modes := 31, action := .clamp
  latestOnly := true, edit := low 8 8, fullScale := 250 }

def guardEntry : FctEntry := { clearedEntry with
  enabled := true, ports := .body, base := 0x2A0, modes := 31, action := .rangeGuard, latestOnly := true, edit := low 0 8 }

def tapEntry : FctEntry := { clearedEntry with
  enabled := true, ports := .chassis, base := 0x1B0, modes := 31, action := .tap, extCount := 2, ext0 := ⟨0, high 0 16⟩
  ext1 := ⟨2, low 16 8⟩ }

def blockEntry : FctEntry := { clearedEntry with
  enabled := true, ports := .chassis, format := .extended, base := 0x18FECA00, mask := 0xFF, modes := 14
  action := .block }

def sinkEntry (base : Ident) (slot : Fin 32) (f : Field) : FctEntry := { clearedEntry with
  enabled := true, ports := .body, base := base, modes := 31, action := .sink, extCount := 1, ext0 := ⟨slot, f⟩ }

def slotDef (gain : Nat) (top : Int) : SlotDef := ⟨gain, 0, 0, top, 100, 64, 5⟩

def comp : CompEntry := { clearedComp with
  enabled := true, feedsPump := true, height := 1400, senderCount := 2, senders := #v[⟨8, 12⟩, ⟨9, -8⟩, ⟨0, -500⟩]
  strapCount := 5, kStill := 2, kMoving := 4, lowThreshold := 250, hysteresis := 50, emptyVolume := 150, holdTime := 30 }

def bank : Bank := { clearedBank with
  header := ⟨.pass, .block, 10, 20⟩
  fct := (((((clearedBank.fct.set 0 clampEntry).set 1 guardEntry).set 2 tapEntry).set 3 (sinkEntry 0x3C0 3 (low 0 2))).set 4
    blockEntry).set 5 (sinkEntry 0x400 8 (high 0 16))
  sdt := (((((clearedBank.sdt.set 0 (slotDef 40 1500)).set 1 (slotDef 128 4000)).set 2 (slotDef 1024 254)).set 3
    (slotDef 1024 2)).set 8 (slotDef 1024 3000)).set 9 (slotDef 1024 3000)
  roles := ⟨some 0, some 1, some 2, some 3, none⟩
  params := { clearedParams with
    stationary := 20, creepLimit := 30, creepTime := 2000, engageMax := 900, neutral := 0, pumpRange := 4, rollSize := 3
    rollCodes := #v[0, 1, 9, 0], tA := 200, tB := 150, tC := 300, tD1 := 500, pumpMax := 850, rollMax := 600
    rollSpeedLimit := 80, protCeiling := 300, intakeMin := 50, riseStep := 50, period := 16 }
  template := { clearedTemplate with
    ident := 0x0CF00A27, format := .extended, length := 8, data := Vector.replicate 8 255, lockStart := 0, lockWidth := 2
    rangeStart := 8 }
  comps := clearedBank.comps.set 0 comp
  straps := ((((clearedBank.straps.set 0 ⟨0, 0⟩).set 1 ⟨200, 310⟩).set 2 ⟨600, 1480⟩).set 3 ⟨1000, 2690⟩).set 4
    ⟨1400, 3790⟩ }

/-- A healthy slot with a value. -/
def slot (v : Int) : Slot := ⟨some v, .healthy, 0, 0, some 0, .stopped, some 0⟩

/-- A slot that is lost and holds a value. -/
def lost (v : Int) (h : HoldTimer) : Slot := ⟨some v, .lost, 255, 0, some 0, h, some 0⟩

/-- ROAD under the bank: standing, the engine at 800 rpm, the range neutral, the last request ROAD. -/
def road : State := { State.reset with
  tables := ⟨bank, bank, Vector.replicate 48 0, ⟨bank, true⟩, .loaded, true, false⟩
  ctl := { State.reset.ctl with app := .road, seeded := true, lastReq := some .road }
  slots := (((((State.reset.slots.set 0 (slot 10)).set 1 (slot 800)).set 2 (slot 0)).set 3 (slot 0)).set 8 (slot 742)).set 9
    (slot 733)
  tank := ⟨State.reset.tank.comps.set 0 ⟨.valid, .normal, some 11520, 720, 1843, 486, none, some 0⟩, some 0⟩
  faults := ⟨none, 0⟩ }

def std (ident : Ident) (data : List Byte) : Frame := ⟨.standard, .data, ident, data.length, data⟩
def ext (ident : Ident) (data : List Byte) : Frame := ⟨.extended, .data, ident, data.length, data⟩

/-- The state after a command. -/
def after (c : Instr) (s : State) : State :=
  match exec c s with
  | .next t => t
  | _ => s

/-- A state with another controller record. -/
def withCtl (f : Controller → Controller) (s : State) : State := { s with ctl := f s.ctl }

/-- A state and phase with the content that may stand there and the phase timer run out. -/
def inPhase (app : AppState) (phase : Phase) (content : Content) : State :=
  { road with
    ctl := { road.ctl with
      app := app, phase := phase, phaseTimer := some 0
      mainShift := app = .mainEngaging ∧ phase ≠ .a ∨ app = .pump
      auxClutch := app = .auxEngaging ∧ phase ≠ .a ∨ app = .roll }
    ceil := { road.ceil with e := 0, content := content, reassert := some 0 } }

def main (phase : Phase) : State := inPhase .mainEngaging phase (if phase = .c then .holdPump else .holdNeutral)
def aux (phase : Phase) : State := inPhase .auxEngaging phase .holdNeutral
def leaving (phase : Phase) : State :=
  withCtl (fun c => { c with origin := some .main, cause := some .operator, mainShift := phase ≠ .d3 })
    (inPhase .disengaging phase .holdNeutral)
def pump : State :=
  withCtl (fun c => { c with phaseTimer := none, lamp := .on, lampHigh := true }) (inPhase .pump .none .holdPump)
def roll : State :=
  withCtl (fun c => { c with phaseTimer := none, lamp := .on, lampHigh := true }) (inPhase .roll .none .restrict)

/-- The range and engine speed changed. -/
def withSlot (i : Fin 32) (x : Slot) (s : State) : State := { s with slots := s.slots.set i x }

/-- A debounced input about to take the pin's level. -/
def settling (i : InputId) (pinLow : Bool) (s : State) : State :=
  withCtl (fun c => c.setInput i ⟨pinLow, !pinLow, some 0⟩) s

/-- A record, and states with one in the output stage toward a port. -/
def record : FrameRecord := ⟨0x100, .standard, .data, 1, [7], .pass, false, none, none, 0⟩
def clampRecord (v : Byte) : FrameRecord := ⟨0x18F00317, .extended, .data, 2, [0, v], .clamp, true, some (low 8 8), some 250, 0⟩
def guardRecord (v : Byte) : FrameRecord := ⟨0x2A0, .standard, .data, 1, [v], .rangeGuard, true, some (low 0 8), none, 0⟩
def sending (r : FrameRecord) (s : State) : State := { s with bc := { s.bc with out := some r } }

/-- An attempt in progress. -/
def attempting (p : Port) (src : Source) (s : State) : State :=
  s.setPort p { s.port p with attempt := some ⟨src, std 1 []⟩ }

/-- A frame in a local place. -/
def waits (attempts : Nat) : LocalFrame := ⟨std 1 [], attempts, false⟩

/-! ## Well-formedness -/

theorem test_frame_well_formed : WellFormed (.frameArrival .body (std 0x7FF [1, 2])) = true := by decide
theorem test_standard_identifier_too_large : WellFormed (.frameArrival .body (std 0x800 [])) = false := by decide
theorem test_length_code_too_large :
    WellFormed (.frameArrival .body ⟨.standard, .data, 1, 16, [0, 0, 0, 0, 0, 0, 0, 0]⟩) = false := by decide
theorem test_data_shorter_than_length : WellFormed (.frameArrival .body ⟨.standard, .data, 1, 2, [0]⟩) = false := by decide
theorem test_remote_frame_with_data : WellFormed (.frameArrival .body ⟨.standard, .remote, 1, 1, [0]⟩) = false := by decide
theorem test_length_codes_above_8_carry_8 :
    WellFormed (.frameArrival .body ⟨.standard, .data, 1, 15, [0, 0, 0, 0, 0, 0, 0, 0]⟩) = true := by decide
theorem test_whole_request_is_no_bad_request : WellFormed (.badRequest .data 3 [2, 9, 0]) = false := by decide
theorem test_short_request_is_a_bad_request : WellFormed (.badRequest .data 2 [2, 9]) = true := by decide
theorem test_no_word_spells_a_command : decodeTableWord 8 5 = none ∧ State.reset.withFetchWord 8 5 = State.reset := ⟨rfl, rfl⟩

/-! ## Worked values -/

/-- 07 section 7.3: a valid bank; a cleared bank fails with ROLE_UNBOUND at role 0. -/
theorem test_bank_is_valid : validate bank = none := by decide +kernel
theorem test_cleared_bank_fails : (validate clearedBank).map (fun f => (f.index, f.check)) = some (0, .roleUnbound) := by
  decide +kernel

/-- 00 section 3.4: the fields of the example. -/
theorem test_low_first_field : readField (low 12 10) [0, 0xF0, 0x3F] = 1023 := by decide
theorem test_high_first_field : readField (high 24 16) [0, 0, 0, 0x12, 0x34] = 0x1234 := by decide

/-- 03 section 3.9: raw 6400 is 250, 40000 is not plausible, 65535 not available. -/
theorem test_conversion_good : (slotDef 40 1500).grade (.raw 6400 16) = some 250 := by decide
theorem test_conversion_not_plausible : (slotDef 40 1500).grade (.raw 40000 16) = none := by decide
theorem test_not_available : (slotDef 40 1500).grade (.raw 65535 16) = none := by decide
theorem test_offset_gives_the_sign : (⟨4096, -100, -100, 1000, 0, 0, 0⟩ : SlotDef).grade (.raw 0 8) = some (-100) := by decide
theorem test_one_bit_is_never_not_available : (slotDef 1024 1).grade (.raw 1 1) = some 1 := by decide

/-- 01 section 1.6, F1: entry 2 taps 25.0 km/h and range 3, and the frame goes to queue C→B. -/
theorem test_tap_updates_and_forwards :
    let t := after (.frameArrival .chassis (std 0x1B0 [0x19, 0, 3])) road
    t.slots[0].value = some 250 ∧ t.slots[2].value = some 3 ∧ t.tables.hits[2] = 1
      ∧ t.cb.body.map (·.action) = [.tap] := by decide +kernel

/-- F4: in TRANSITION entry 4 blocks. -/
theorem test_block_discards :
    let t := after (.frameArrival .chassis (ext 0x18FECA00 [0, 0, 0, 0, 0, 0, 0, 0])) (main .a)
    t.cb.body = [] ∧ t.tables.hits[4] = 1 := by decide +kernel

/-- F6, F7: a remote frame matches nothing; a short frame is an error event of the slot. -/
theorem test_remote_frame_matches_nothing :
    let t := after (.frameArrival .body ⟨.standard, .remote, 0x3C0, 1, []⟩) road
    t.tables.hits[3] = 0 ∧ t.bc.body = [] := by decide +kernel
theorem test_short_frame_is_an_error :
    let t := after (.frameArrival .body (std 0x3C0 [])) road
    t.tables.hits[3] = 1 ∧ t.slots[3].hc = 64 := by decide +kernel

/-- 02 section 2.7: throttle 160 supersedes throttle 140 in place; 05 section 5.6: at E = 300 throttle 210 leaves as 75. -/
theorem test_supersede :
    let s := { road with bc := { road.bc with body := [guardRecord 3, clampRecord 140], out := some (clampRecord 120) } }
    let t := after (.frameArrival .body (ext 0x18F00317 [0, 160])) s
    t.bc.body.map (·.data) = [[3], [0, 160]] ∧ t.bc.superseded = 1 := by decide +kernel
theorem test_clamp_at_300 :
    let s := sending (clampRecord 210) { pump with ceil := { pump.ceil with e := 300 } }
    (after (.attemptStart .chassis) s).chassis.attempt.map (·.frame.data) = some [0, 75] := by decide +kernel
theorem test_queue_move : (after (.queueMove .bc) { road with bc := { road.bc with body := [record] } }).bc.out = some record := by
  decide +kernel

/-- R34, R40: the eighth failure abandons, the thirty-second is a bus fault. -/
theorem test_eighth_failure :
    let t := after (.attemptFailure .chassis) (attempting .chassis .output (sending { record with attempts := 7 } road))
    t.bc.out = none ∧ t.bc.abandoned = 1 ∧ t.faults.record.map (·.cause) = some .transmitAbandoned := by decide +kernel
theorem test_bus_fault :
    let s := attempting .body .busy { road with places := { road.places with busy := some (waits 0) } }
    let t := after (.attemptFailure .body) { s with body := { s.body with run := 31 } }
    t.body.st = .busFault ∧ t.body.recovery = some 1000 ∧ t.places.busy = some (waits 1) := by decide +kernel
theorem test_arbitration_loss :
    (after (.arbitrationLoss .chassis) (attempting .chassis .output (sending record road))).bc.out = some record := by
  decide +kernel
theorem test_recovery :
    let s := { road with chassis := { road.chassis with st := .busFault, run := 32, recovery := some 0 } }
    (after (.recoveryTimerExpiry .chassis) s).chassis.st = .active := by decide +kernel

/-- R79: 20 ms of stability. -/
theorem test_pin_starts_the_countdown :
    (after (.discretePinChange .mainFb true) road).ctl.mainFb = ⟨true, false, some 20⟩ := by decide +kernel
theorem test_feedback_in_road :
    let t := after (.debouncedInputChange .auxFb) (settling .auxFb true road)
    t.ctl.mismatch = true ∧ t.ctl.lamp = .flash ∧ t.faults.record.map (·.index) = some (some 1) := by decide +kernel

/-- R58, R63: the fourth error of step 64 takes a slot to LOST; a hold that runs out lets its value go. -/
theorem test_fourth_error_is_lost :
    let t := after (.freshnessExpiry 8) (withSlot 8 { slot 5 with hc := 192, status := .suspect } road)
    t.slots[8].status = .lost ∧ t.slots[8].hold = .running 500 ∧ t.faults.record.map (·.cause) = some .signalLost := by
  decide +kernel
theorem test_hold_expiry : (after (.holdExpiry 8) (withSlot 8 (lost 5 (.running 0)) road)).slots[8].value = none := by
  decide +kernel

/-- 04 section 4.15: with a feedback still active RELEASE_TIMEOUT leads to FAULT_HOLD, which ends once it is inactive. -/
theorem test_fault_hold_ends_with_the_feedback :
    let t := after .phaseTimerExpiry (withCtl (fun c => { c with mainFb := ⟨true, true, none⟩ }) (leaving .d3))
    let u := after (.debouncedInputChange .mainFb) (settling .mainFb false t)
    t.ctl.app = .faultHold ∧ t.ctl.lamp = .flash ∧ u.ctl.app = .road ∧ u.ctl.lamp = .off := by decide +kernel

/-- 04 section 4.14: a PUMP request with every precondition met; a refusal at the first that fails. -/
theorem test_pump_request_engages :
    let s := withCtl (fun c => { c with park := ⟨true, true, none⟩ }) road
    let t := after (.frameArrival .body (std 0x3C0 [1])) s
    t.ctl.app = .mainEngaging ∧ t.ctl.phaseTimer = some 2000 ∧ t.ceil.e = 0
      ∧ t.places.lockout.cur.map (·.frame.data.take 2) = some [0xFD, 0] := by decide +kernel
theorem test_pump_request_refused :
    let t := after (.frameArrival .body (std 0x3C0 [1])) road
    t.ctl.app = .road ∧ t.faults.record.map (·.index) = some (some 1) := by decide +kernel
theorem test_lockout_success :
    let s := { main .a with places := { road.places with lockout := ⟨some (waits 0), none⟩ } }
    let t := after (.attemptSuccess .chassis) (attempting .chassis .lockout s)
    t.ctl.phase = .b ∧ t.ctl.mainShift = true := by decide +kernel
theorem test_phase_timeout :
    let t := after .phaseTimerExpiry (withSlot 1 (slot 1450) (main .b))
    t.ctl.app = .disengaging ∧ t.ctl.phase = .d1 ∧ t.faults.record.map (·.cause) = some .phaseBTimeout := by decide +kernel
theorem test_creep :
    let s := withSlot 1 (slot 1450) (withCtl (fun c => { c with creep := some 0 }) pump)
    (after .creepDetected s).ctl.cause = some (.cause .creepDetected) := by decide +kernel
theorem test_flash : (after .lampFlashToggle (withCtl (fun c => { c with flash := some 0 }) road)).ctl.flash = some 500 := by
  decide +kernel

/-- 05 sections 5.4, 5.6: E falls to the protection ceiling at once; a RESTRICT frame with code 1 is FF 01. -/
theorem test_protection :
    let s := { pump with
      ceil := { pump.ceil with e := 850, timer := 0 }
      tank := ⟨pump.tank.comps.set 0 ⟨.valid, .empty, some 0, 0, 0, 0, none, none⟩, none⟩ }
    let t := after .ceilingTimerExpiry s
    t.ceil.e = 300 ∧ t.ceil.timer = 100 ∧ t.faults.record.map (·.cause) = some .tankProtection := by decide +kernel
theorem test_reassertion :
    let t := after .reassertionTimerExpiry { roll with ceil := { roll.ceil with lastRange := 1 } }
    t.places.lockout.cur.map (·.frame.data.take 2) = some [0xFF, 1] ∧ t.ceil.reassert = some 256 := by decide +kernel

/-- 06 section 6.7: L = 740, F16 = 11540, Lf = 721, V = 1846, P = 487 with k_moving. -/
theorem test_evaluation :
    (after (.evaluationTimerExpiry 0) (withSlot 0 (slot 100) road)).tank.comps[0]
      = ⟨.valid, .normal, some 11540, 721, 1846, 487, none, some 100⟩ := by decide +kernel
theorem test_tank_unknown :
    let s := { road with tank := ⟨road.tank.comps.set 0 ⟨.held, .low, some 1, 1, 1, 1, some 0, some 5⟩, none⟩ }
    (after (.holdCountdownExpiry 0) s).tank.comps[0] = ⟨.unknown, .none, none, 0, 0, 0, none, some 5⟩ := by decide +kernel
theorem test_level_report :
    (after .reportTimerExpiry road).places.level.cur.map (·.frame.data)
      = some [0x01, 0xE6, 0x3C, 0x00, 0x3C, 0x00, 0x3C, 0x00] := by decide +kernel
theorem test_status_page :
    let t := after .statusTimerExpiry { road with engine := { road.engine with statusTimer := some 0 } }
    t.places.status.cur.map (·.frame.data) = some [0, 1, 0, 0x03, 0xE8, 0, 0, 0] ∧ t.engine.nextPage = .b
      ∧ t.engine.statusTimer = some 1000 := by decide +kernel

/-- 10 section 10.4: full scale 250 written into entry 6, and 0 clamped to 1. -/
theorem test_write_table :
    let t := after (.writeTable 0x21 1 11 6 250) road
    t.places.resp1.map (·.frame.data) = some [0x05, 0x21, 0, 0, 0, 0xFA, 0, 0] ∧ t.tables.shadow.fct[6].fullScale = 250 := by
  decide +kernel
theorem test_write_table_clamped :
    (after (.writeTable 0x21 1 11 6 0) road).places.resp1.map (·.frame.data) = some [0x85, 0x21, 0, 0, 0, 1, 0, 0] := by
  decide +kernel
theorem test_read_table :
    (after (.readTable 0x22 1 11 0 0) road).places.resp1.map (·.frame.data) = some [0x04, 0x22, 0, 0, 0, 0xFA, 0, 0] := by
  decide +kernel
theorem test_probe :
    (after (.probe 7 0 1 1 0 0x18F00317) road).places.resp1.map (·.frame.data) = some [8, 7, 0, 4, 0, 0, 0, 0] := by
  decide +kernel
theorem test_read_signal :
    (after (.readSignal 7 8) road).places.resp1.map (·.frame.data) = some [2, 7, 0x02, 0xE6, 0x31, 0, 0, 0] := by
  decide +kernel
theorem test_read_compartment :
    (after (.readCompartment 7 0) road).places.resp1.map (·.frame.data)
      = some [3, 7, 0x01, 0xE6, 0x02, 0xD0, 0x07, 0x33] := by decide +kernel
theorem test_query_status :
    (after (.queryStatus 7 1) road).places.resp1.map (·.frame.data) = some [1, 7, 0x60, 0, 0, 0, 0, 0] := by
  decide +kernel

/-- R44 to R46, R170, R178, R179: control, counters and the fault record. -/
theorem test_quiesce_drained : (after (.quiesce 1 0) road).chassis.st = .stopped := by decide +kernel
theorem test_cut_flushes :
    let t := after (.cut 1 0) (sending record road)
    t.bc.out = none ∧ t.bc.flushed = 1 ∧ t.chassis.st = .stopped := by decide +kernel
theorem test_resume :
    (after (.resume 1 0) { road with chassis := { road.chassis with st := .stopped } }).chassis.st = .active := by
  decide +kernel
theorem test_read_counter :
    (after (.readCounter 1 1 0) road).places.resp1.map (·.frame.data) = some [10, 1, 0, 0, 0, 1, 0, 0] := by decide +kernel
theorem test_clear_counters : (after (.clearCounters 1 1) road).body.arrivals = 0 := by decide +kernel
theorem test_read_fault_of_reset :
    (after (.readFault 1) State.reset).places.resp1.map (·.frame.data) = some [12, 1, 23, 2, 0, 0, 0, 0] := by decide +kernel
theorem test_clear_fault :
    let t := after (.clearFault 1) State.reset
    t.faults = ⟨none, 0x400000⟩ := by decide +kernel
theorem test_clear_flags :
    let t := after (.clearFlags 1 0xFFFFFF) State.reset
    t.faults.flags = 0 ∧ t.faults.record.isSome := by decide +kernel
theorem test_copy : (after (.copyActiveToShadow 1) { road with tables := { road.tables with shadow := clearedBank } }).tables.shadow
    = bank := by decide +kernel

/-- 07 section 7.6: validation, refusal with the check, activation. -/
theorem test_activate_stays_in_service :
    (after (.activate 7 1) road).engine.inService.map (·.stage) = some .validating := by decide +kernel
theorem test_invalid_table :
    let s := { after (.activate 7 0) road with tables := { road.tables with shadow := clearedBank } }
    (after .validationCompletion s).places.resp1.map (·.frame.data.take 3) = some [0x67, 7, 3] := by decide +kernel
theorem test_activation :
    let t := after .validationCompletion { after (.activate 7 0) State.reset with tables := { State.reset.tables with shadow := bank } }
    t.ctl.app = .road ∧ t.tables.active = bank ∧ t.tables.origin = .activated
      ∧ t.places.resp1.map (·.frame.data.take 2) = some [7, 7] := by decide +kernel
theorem test_store_end :
    let t := after (.storeEnd true) (after .validationCompletion (after (.activate 7 1) road))
    t.tables.store = ⟨bank, true⟩ ∧ t.tables.marker = true ∧ t.tables.storing = false := by decide +kernel
theorem test_power_reset_begins_a_load :
    let t := after (.powerReset ⟨2, false, false⟩) road
    t.tables.origin = .loading ∧ t.ctl.app = .unloaded ∧ t.tables.active = clearedBank := by decide +kernel
theorem test_load_completion :
    let t := after .powerUpLoadCompletion (after (.pinReset ⟨2, false, false⟩) road)
    t.ctl.app = .road ∧ t.tables.active = bank ∧ t.tables.origin = .loaded := by decide +kernel
theorem test_restart : (after (.restart 7) road).engine.restart = some ⟨50, .first⟩ := by decide +kernel
theorem test_restart_taken :
    let s := { road with engine := { road.engine with restart := some ⟨0, .first⟩ }, clock := 9 }
    let t := after .restartCountdownExpiry s
    t.clock = 0 ∧ t.ctl.app = .road ∧ t.faults.record.map (·.cause) = some .restarted := by decide +kernel
theorem test_tick : (after .frameClockTick { State.reset with clock := 0xFFFF }).clock = 0 := by decide +kernel
theorem test_bad_request :
    (after (.badRequest .data 1 [2]) road).places.resp1.map (·.frame.data) = some [0x22, 0, 0, 0, 0, 0, 0, 0] := by
  decide +kernel

/-! ## Witnesses: the hypotheses of every statement, clause by clause -/

def taken : List Byte := [1, 2]
def request (data : List Byte) : Frame := ext 0x0C5AA100 data

/-- The laws hold of `road` and of the states built on it. -/
theorem road_controller : ControllerCoherent road.ctl := by constructor <;> decide +kernel
theorem road_ceiling : CeilingCoherent road.ctl road.ceil := by constructor <;> decide +kernel
theorem road_drive : DriveCoherent road := ⟨road_controller, road_ceiling⟩
theorem road_tables : TablesCoherent road where
  marker := rfl
  image := fun _ => test_bank_is_valid
  unloaded := by decide +kernel
  cleared := by decide +kernel
  valid := fun _ => test_bank_is_valid
  loading := by decide +kernel
  storing := by
    refine ⟨fun h => absurd h (by decide +kernel), fun ⟨v, h, _⟩ => ?_⟩
    cases h
  activated := by decide +kernel

def restarting : State :=
  attempting .body (.response .first) { road with engine := { road.engine with restart := some ⟨0, .first⟩ } }
theorem witness_RestartTakesTheSoftReset :
    restarting.engine.restart = some ⟨0, .first⟩
      ∧ restarting.body.attempt = some ⟨.response .first, std 1 []⟩ := ⟨rfl, rfl⟩
theorem witness_OnlyTicksAdvanceTheClock :
    (∃ t, exec (.queueMove .bc) road = .next t) ∧ (∃ t, exec (.powerReset ⟨0, false, false⟩) road = .next t)
      ∧ (∃ t, exec (.attemptSuccess .body) restarting = .next t) ∧ (∃ t, exec .restartCountdownExpiry restarting = .next t) :=
  ⟨⟨_, rfl⟩, ⟨_, rfl⟩, ⟨_, rfl⟩, ⟨_, rfl⟩⟩

def stoppedPort (p : Port) (s : State) : State := s.setPort p { s.port p with st := .stopped }
def faultPort (p : Port) (ret : PortSt) (s : State) : State :=
  s.setPort p { s.port p with st := .busFault, ret := ret, run := 32, recovery := some 0 }
theorem witness_SilentPortsTakeNoFrame :
    (std 1 taken).wellFormed = true ∧ ((faultPort .body .active road).port .body).st = .busFault
      ∧ ((stoppedPort .body road).port .body).st = .stopped ∧ (stoppedPort .body road).diverts .body (std 1 taken) = false := by
  decide +kernel
theorem witness_UnloadedFramesPassAndUnmatchedTakeTheDefault :
    ((std 0x7FF taken).wellFormed = true ∧ State.reset.ctl.app = .unloaded
        ∧ State.reset.diverts .chassis (std 0x7FF taken) = false ∧ Receives State.reset .chassis)
      ∧ (modeClass road.ctl.app = some 0 ∧ road.diverts .body (std 0x7FF taken) = false ∧ Receives road .body
        ∧ bank.search .body 0 .standard .data 0x7FF = none) :=
  ⟨⟨by decide, rfl, by decide, .inl rfl⟩, rfl, by decide, .inl rfl, by decide +kernel⟩
theorem witness_SinkFramesUpdateTheirSlot :
    SinkUpdate road .body (std 0x400 taken) 5 ⟨8, high 0 16⟩ 258 ∧ Unnotified road.tables.active.roles 8 := by
  refine ⟨⟨by decide, rfl, by decide, .inl rfl, ⟨0, rfl, by decide +kernel⟩, ?_, ?_, ?_, ?_⟩, ?_⟩ <;>
    first | decide +kernel | exact ⟨by decide, by decide, by decide, by decide⟩
def passEntry : FctEntry := { sinkEntry 0x410 9 (low 0 8) with action := .pass }
def passing : State := { road with tables := { road.tables with active := { bank with fct := bank.fct.set 6 passEntry } } }
theorem wins {s : State} {p : Port} {f : Frame} {i : Fin 48} (cls : Nat) (hc : InClass s.ctl.app cls)
    (h : f.wellFormed = true ∧ s.diverts p f = false ∧ (s.port p).st = .active
      ∧ s.tables.active.search p cls f.format f.kind f.ident = some i) : Wins s p f i :=
  ⟨h.1, h.2.1, .inl h.2.2.1, ⟨cls, hc, h.2.2.2⟩⟩
theorem witness_MatchedFramesExtractAndForward :
    Wins road .body (std 0x400 taken) 5 ∧ Wins passing .body (std 0x410 taken) 6 ∧ passEntry.action = .pass
      ∧ Wins road .chassis (std 0x1B0 [0x19, 0, 3]) 2 ∧ tapEntry.action = .tap ∧ tapEntry.extCount = 2
      ∧ Wins road .body (ext 0x18F00317 [0, 140]) 0 ∧ WithinData clampEntry.edit 2
      ∧ Wins road .body (ext 0x18F00317 [0]) 0 ∧ ¬WithinData clampEntry.edit 1
      ∧ Wins road .body (std 0x2A0 [3]) 1 ∧ WithinData guardEntry.edit 1
      ∧ Wins (main .a) .chassis (ext 0x18FECA00 taken) 4 ∧ blockEntry.action = .block :=
  ⟨wins 0 (by decide) (by decide +kernel), wins 0 (by decide) (by decide +kernel), rfl,
    wins 0 (by decide) (by decide +kernel), rfl, rfl, wins 0 (by decide) (by decide +kernel), by decide,
    wins 0 (by decide) (by decide +kernel), by decide, wins 0 (by decide) (by decide +kernel), by decide,
    wins 1 (by decide) (by decide +kernel), rfl⟩
theorem sinks_request (v : Byte) (eng : Int) (s : State) (h : s.tables.active.fct = bank.fct) (ha : s.ctl.app = .road)
    (hp : s.body.st = .active) (hv : (s.tables.active.sdt[3]).grade (.raw (readField (low 0 2) [v]) 2) = some eng) :
    SinkUpdate s .body (std 0x3C0 [v]) 3 ⟨3, low 0 2⟩ eng where
  frame := by simp [std, Frame.wellFormed]
  data := rfl
  plain := rfl
  receives := .inl hp
  wins := ⟨0, by rw [ha]; rfl, by
    unfold Bank.search; rw [h]; show bank.search .body 0 .standard .data 0x3C0 = some 3; decide +kernel⟩
  action := by rw [h]; decide +kernel
  extractor := by rw [h]; decide +kernel
  fits := by show (low 0 2).fits 1 = true; decide
  good := hv
theorem witness_ModeRequestsSeedThenAct :
    SinkUpdate road .body (std 0x3C0 [0]) 3 ⟨3, low 0 2⟩ 0 ∧ SinkUpdate road .body (std 0x3C0 [1]) 3 ⟨3, low 0 2⟩ 1
      ∧ SinkUpdate (withCtl (fun c => { c with seeded := false, lastReq := none }) road) .body (std 0x3C0 [2]) 3
          ⟨3, low 0 2⟩ 2
      ∧ (bank.roles.modeRequest = some 3 ∧ bank.roles.roadSpeed ≠ some 3 ∧ bank.roles.engineSpeed ≠ some 3
        ∧ bank.roles.currentRange ≠ some 3 ∧ road.slots[3].status ≠ .lost ∧ road.ctl.seeded = true
        ∧ road.ctl.lastReq = some .road) :=
  ⟨sinks_request _ _ _ rfl rfl rfl (by decide +kernel), sinks_request _ _ _ rfl rfl rfl (by decide +kernel),
    sinks_request _ _ _ rfl rfl rfl (by decide +kernel), by decide +kernel⟩
/-- ROAD with another definition of the MODE_REQUEST slot, which is recovering or not. -/
def requesting (d : SlotDef) (x : Slot) : State :=
  withSlot 3 x { road with tables := { road.tables with active := { bank with sdt := bank.sdt.set 3 d } } }
theorem requesting_definition (d : SlotDef) (x : Slot) : (requesting d x).tables.active.sdt[3] = d := by
  simp [requesting, withSlot]
theorem witness_RequestValuesIgnoredOrRecovered :
    let recovering (n : Nat) : Slot := { lost 0 .stopped with recovery := n }
    SinkUpdate (requesting ⟨2048, 1, 0, 10, 100, 64, 5⟩ (slot 0)) .body (std 0x3C0 [1]) 3 ⟨3, low 0 2⟩ 3
      ∧ SinkUpdate (requesting ⟨1024, -1, -10, 10, 100, 64, 5⟩ (slot 0)) .body (std 0x3C0 [0]) 3 ⟨3, low 0 2⟩ (-1)
      ∧ (∀ n, SinkUpdate (requesting (slotDef 1024 2) (recovering n)) .body (std 0x3C0 [1]) 3 ⟨3, low 0 2⟩ 1)
      ∧ (∀ n ∈ [6, 7], (requesting (slotDef 1024 2) (recovering n)).slots[3].status = .lost
        ∧ (requesting (slotDef 1024 2) (recovering n)).slots[3].recovery = n) :=
  ⟨sinks_request _ _ _ rfl rfl rfl (by decide +kernel), sinks_request _ _ _ rfl rfl rfl (by decide +kernel),
    fun _ => sinks_request _ _ _ rfl rfl rfl (by rw [requesting_definition]; decide), by decide +kernel⟩

def serving (x y : Option Frame) (last : Buffer) : State :=
  { road with engine := { road.engine with
      bufX := x, bufY := y, lastFilled := last, inService := some ⟨request [7, 1, 1], .first, .validating⟩ } }
theorem witness_IntakeHoldsTwoAndAnswersBusy :
    ((request [2, 1, 0]).wellFormed = true ∧ (request [2, 1, 0]).format = .extended
        ∧ (request [2, 1, 0]).ident = 0x0C5AA100 + road.straps.node.setWidth 29 ∧ road.body.st ≠ .busFault)
      ∧ (let s := serving none none .y
         s.engine.inService.isSome ∧ s.engine.bufX = none ∧ s.engine.lastFilled = .y)
      ∧ (let s := serving (some (request [1])) none .x
         s.engine.inService.isSome ∧ s.engine.bufY = none ∧ s.engine.bufX.isSome)
      ∧ (let s := serving (some (request [1])) (some (request [2])) .y
         s.engine.bufX.isSome ∧ s.engine.bufY.isSome) := by
  decide +kernel
theorem witness_IntakeServesTheOlder :
    let s (last : Buffer) : State :=
      { road with engine := { road.engine with
          bufX := some (request [12, 1]), bufY := some (request [13, 2]), lastFilled := last } }
    ∀ last, (s last).engine.inService = none ∧ (s last).engine.restart = none ∧ (s last).tables.origin ≠ .loading
      ∧ (s last).places.resp1 = none ∧ (s last).engine.lastFilled = last := by
  intro s last; cases last <;> decide +kernel
theorem witness_SupersedesAndMovesKeepTheOrder :
    let s := { road with bc := { road.bc with body := [guardRecord 3, clampRecord 140, record] } }
    ((s.port (destination .bc)).refusesFrames = false
      ∧ (s.queue .bc).body = [guardRecord 3] ++ clampRecord 140 :: [record]
      ∧ (clampRecord 160).latestOnly = true ∧ (clampRecord 140).latestOnly = true
      ∧ (clampRecord 140).ident = (clampRecord 160).ident ∧ (clampRecord 140).format = (clampRecord 160).format
      ∧ ∀ r ∈ [guardRecord 3], ¬Rivals r (clampRecord 160))
      ∧ (s.queue .bc).out = none ∧ (s.queue .bc).body = guardRecord 3 :: [clampRecord 140, record] := by
  refine ⟨⟨by decide +kernel, rfl, rfl, rfl, rfl, rfl, fun r hr h => ?_⟩, rfl, rfl⟩
  obtain rfl := List.mem_singleton.mp hr
  exact absurd h.2.2.1 (by decide)
theorem witness_EventsThatCannotOccur :
    (road.queue .bc).body = [] ∧ ((sending record road).queue .bc).out.isSome
      ∧ ((attempting .body .busy road).port .body).attempt.isSome ∧ (road.port .body).attempt = none
      ∧ (road.port .body).recovery ≠ some 0 ∧ (road.ctl.input .mainFb).countdown ≠ some 0
      ∧ road.slots[5].freshness ≠ some 0 ∧ road.slots[5].hold ≠ .running 0 ∧ road.ctl.phaseTimer ≠ some 0
      ∧ road.ctl.creep ≠ some 0 ∧ road.ceil.timer ≠ 0 ∧ road.ceil.reassert ≠ some 0
      ∧ road.tank.comps[1].evalTimer ≠ some 0 ∧ road.tank.comps[1].hold ≠ some 0 ∧ State.reset.tank.report ≠ some 0
      ∧ road.engine.statusTimer ≠ some 0 ∧ road.ctl.flash ≠ some 0
      ∧ (∀ r ∈ (after (.restart 1) road).engine.restart, r.left ≠ 0) ∧ road.engine.inService = none
      ∧ road.tables.origin ≠ .loading := by
  decide +kernel

def crowded : State :=
  { road with places := { road.places with resp1 := some (waits 0), resp2 := some (waits 0), respOlder := .second } }
theorem witness_ArbiterTakesTheFirstEligibleFrame :
    (crowded.body.attempt = none ∧ localOrder crowded .body = [] ++ .response .second :: [.response .first, .busy, .status, .level]
        ∧ crowded.places.at (.response .second) = some (waits 0))
      ∧ (TakesOutput (sending record road) .chassis record ∧ record.action = .pass)
      ∧ ((road.port .body).attempt = none ∧ (road.queue (queueToward .body)).out = none
        ∧ ∀ x ∈ localOrder road .body, road.places.at x = none) := by
  refine ⟨⟨rfl, rfl, rfl⟩, ⟨⟨rfl, .inl rfl, rfl, rfl⟩, rfl⟩, rfl, rfl, ?_⟩
  decide +kernel
theorem witness_ClampLimitsItsField (v : Byte) :
    TakesOutput (sending (clampRecord v) road) .chassis (clampRecord v) ∧ (clampRecord v).action = .clamp
      ∧ HoldsField (clampRecord v) (low 8 8) ∧ (clampRecord v).fullScale = some 250 ∧ 2 ≤ (low 8 8).width :=
  ⟨⟨rfl, .inl rfl, rfl, rfl⟩, rfl, ⟨rfl, rfl, rfl, rfl⟩, rfl, by decide⟩
theorem witness_RangeGuardHoldsTheRange (v : Byte) :
    HoldsField (guardRecord v) (low 0 8) ∧ (guardRecord v).action = .rangeGuard ∧ (low 0 8).width = 8
      ∧ (∀ s ∈ [road, main .a, main .c, pump, roll, aux .b, leaving .d1],
        TakesOutput (sending (guardRecord v) s) .chassis (guardRecord v) ∧ s.ctl.app ≠ .unloaded
        ∧ s.tables.active.params.neutral < 256 ∧ s.tables.active.params.pumpRange < 256 ∧ s.ceil.lastRange < 256) := by
  refine ⟨⟨rfl, rfl, rfl, rfl⟩, rfl, rfl, fun s hs => ?_⟩
  simp only [List.mem_cons, List.not_mem_nil, or_false] at hs
  rcases hs with rfl | rfl | rfl | rfl | rfl | rfl | rfl <;>
    exact ⟨⟨rfl, .inl rfl, rfl, rfl⟩, by decide +kernel, by decide +kernel, by decide +kernel, by decide +kernel⟩

theorem witness_SuccessesAndLosses :
    (attempting .chassis .output (sending record road)).chassis.attempt = some ⟨.output, std 1 []⟩
      ∧ (attempting .chassis .lockout road).chassis.attempt = some ⟨.lockout, std 1 []⟩ ∧ road.ctl.phase ≠ .a
      ∧ (attempting .body (.response .second) crowded).body.attempt = some ⟨.response .second, std 1 []⟩
      ∧ crowded.engine.restart = none
      ∧ ∀ r ∈ (some ⟨5, .first⟩ : Option RestartPending), r.place ≠ .second :=
  ⟨rfl, rfl, by decide, rfl, rfl, by decide⟩
theorem witness_FailuresCountAndAbandonAtEight :
    (∀ n ∈ [6, 7],
      let s := attempting .chassis .output (sending { record with attempts := n } road)
      s.chassis.run + 1 < 32 ∧ s.bc.out = some { record with attempts := n })
      ∧ (let s := attempting .body (.response .second) crowded
         { s with body := { s.body with run := 30 } }.body.run + 1 < 32
           ∧ s.places.at (.response .second) = some (waits 0) ∧ s.engine.bufX = none ∧ s.engine.bufY = none) := by
  decide +kernel
theorem witness_BusFaultComesAndPasses :
    let s := attempting .chassis .output (sending record road)
    let t := { s with chassis := { s.chassis with run := 31 } }
    (t.chassis.attempt = some ⟨.output, std 1 []⟩ ∧ (t.queue (queueToward .chassis)).out = some record
      ∧ t.chassis.run = 31 ∧ t.chassis.st ≠ .busFault)
      ∧ ((faultPort .chassis .quiescing road).chassis.st = .busFault
        ∧ (faultPort .chassis .quiescing road).chassis.recovery = some 0) := by decide +kernel
theorem witness_BusFaultOfALocalFrame :
    (let s := attempting .body (.response .second) { crowded with body := { crowded.body with st := .stopped, run := 31 } }
     s.body.attempt = some ⟨.response .second, std 1 []⟩ ∧ s.body.run = 31 ∧ s.body.st ≠ .busFault
       ∧ s.places.at (.response .second) = some (waits 0) ∧ s.engine.bufX = none ∧ s.engine.bufY = none)
      ∧ (let s := attempting .chassis .lockout { road with
           chassis := { road.chassis with run := 31 }, places := { road.places with lockout := ⟨some (waits 7), none⟩ } }
         s.chassis.attempt = some ⟨.lockout, std 1 []⟩ ∧ s.chassis.run = 31 ∧ s.chassis.st ≠ .busFault
           ∧ s.places.at .lockout = some (waits 7)) := by decide +kernel
theorem witness_QueueAccountsStayBalanced :
    let s := attempting .chassis .output (sending record road)
    s.engine.bufX = none ∧ s.engine.bufY = none ∧ s.engine.restart = none
      ∧ s.diverts .body (std 1 taken) = false
      ∧ (∀ p a, (s.port p).attempt = some a → a.source = .output → (s.queue (queueToward p)).out.isSome)
      ∧ ∃ t, exec (.attemptSuccess .chassis) s = .next t := by
  refine ⟨rfl, rfl, rfl, rfl, fun p a h _ => ?_, ⟨_, rfl⟩⟩
  cases p
  · rfl
  · exact nomatch h

theorem witness_FieldsReadAndWriteTheirBits :
    ((low 48 16).geometryOk = true ∧ (low 48 16).fits 8 = true ∧ 65535 < 2 ^ (low 48 16).width)
      ∧ ((high 48 16).geometryOk = true ∧ (high 48 16).order = .highFirst ∧ (high 48 16).fits 8 = true)
      ∧ ((high 56 8).geometryOk = true ∧ (high 56 8).width = 8) := by decide
theorem witness_GradingConvertsAndChecks :
    (2 ≤ 2 ∧ 3 = 2 ^ 2 - 1) ∧ (1 < 2 ∨ 1 ≠ 2 ^ 1 - 1) ∧ (16 < 2 ∨ 65534 ≠ 2 ^ 16 - 1) ∧ 0 < (slotDef 1 1).holdTime := by
  decide
theorem witness_FreshnessAndHoldExpiries :
    road.slots[8].freshness = some 0 ∧ (withSlot 8 (lost 5 (.running 0)) road).slots[8].hold = .running 0
      ∧ Unnotified road.tables.active.roles 8 :=
  ⟨by decide +kernel, by decide +kernel, by decide, by decide, by decide, by decide⟩
theorem witness_OneRoleIsNotified :
    ∀ x ∈ [((0 : Fin 32), Role.roadSpeed), (1, .engineSpeed), (2, .currentRange), (3, .modeRequest)],
      x.2 ≠ .intakePressure ∧ ∀ k ∈ [Role.roadSpeed, .engineSpeed, .currentRange, .modeRequest],
        bank.roles.get k = some x.1 ↔ k = x.2 := by decide
theorem witness_RoadSpeedIsWatched :
    (roll.ctl.app = .roll ∧ roll.tables.active.roles.roadSpeed = some 0)
      ∧ (withSlot 0 State.reset.slots[0] roll).slots[0].present = none
      ∧ (withSlot 0 (slot 80) roll).slots[0].present = some 80 ∧ ¬(80 < (80 : Int))
      ∧ (withSlot 0 (slot 81) roll).slots[0].present = some 81
      ∧ (pump.ctl.app = .pump ∧ (withSlot 0 (slot 30) pump).slots[0].usable = some 30 ∧ ¬((30 : Int) < 30))
      ∧ (withSlot 0 (slot 31) pump).slots[0].usable = some 31 ∧ pump.ctl.creep = none ∧ 0 < bank.params.creepTime := by
  decide +kernel
theorem witness_CreepExpiry :
    let s := withSlot 1 (slot 1450) (withCtl (fun c => { c with creep := some 0 }) pump)
    let zero := { bank with params := { bank.params with creepTime := 0 } }
    s.ctl.creep = some 0 ∧ s.ctl.app = .pump ∧ zero.params.creepTime = 0
      ∧ (withSlot 0 (slot 31) { pump with tables := { pump.tables with active := zero } }).slots[0].usable = some 31 := by
  decide +kernel

theorem witness_PinsAndLamp :
    ((settling .parkSw true road).ctl.input .parkSw).countdown = some 0
      ∧ ((settling .mainFb true State.reset).ctl.input .mainFb).countdown = some 0 ∧ State.reset.ctl.app = .unloaded
      ∧ ((settling .mainFb true (leaving .d2)).ctl.app = .disengaging ∧ (settling .mainFb true (leaving .d2)).ctl.phase ≠ .d3)
      ∧ (withCtl (fun c => { c with flash := some 0 }) road).ctl.flash = some 0 := by decide +kernel
theorem witness_InputsAreWatched :
    (∀ b, (settling .parkSw b pump).ctl.app = .pump ∧ (settling .parkSw b pump).ctl.park.countdown = some 0)
      ∧ (∀ b, (settling .auxFb b road).ctl.app = .road
        ∧ ((settling .auxFb b road).ctl.input .auxFb).countdown = some 0) := by decide +kernel
theorem witness_ViolationsBeginTheDisengaging :
    let s := settling .mainFb true (main .a)
    (∀ v ∈ [(900 : Int), 901], (withSlot 1 (slot v) s).engineSlow = decide (v = 900))
      ∧ (s.ctl.input .mainFb).countdown = some 0
      ∧ violation s.ctl .mainFb (s.ctl.input .mainFb).pinLow = some (.feedbackMismatch, 0)
      ∧ s.tables.active.roles.roadSpeed = some 0 ∧ s.slots[0].usable = some 10
      ∧ (withSlot 0 (slot 21) s).slots[0].usable = some 21 ∧ (withSlot 0 (lost 21 .never) s).slots[0].usable = none := by
  decide +kernel
theorem witness_InputsThatViolateNothing :
    (∀ s ∈ [main .a, aux .a, roll],
      let t := settling .parkSw true s
      (t.ctl.input .parkSw).countdown = some 0 ∧ violation t.ctl .parkSw (t.ctl.input .parkSw).pinLow = none
        ∧ (t.ctl.app = .mainEngaging ∨ t.ctl.app = .auxEngaging ∨ t.ctl.app = .roll))
      ∧ (let t := settling .mainFb true pump
         violation t.ctl .mainFb (t.ctl.input .mainFb).pinLow = none ∧ t.ctl.app = .pump ∧ t.ctl.phase ≠ .b)
      ∧ [State.reset.ctl.app, road.ctl.app, (leaving .d1).ctl.app, (inPhase .faultHold .none .holdNeutral).ctl.app]
        = [.unloaded, .road, .disengaging, .faultHold] := by decide +kernel
def active (i : InputId) (s : State) : State := withCtl (fun c => c.setInput i ⟨true, true, none⟩) s
def faultHold : State := inPhase .faultHold .none .holdNeutral
theorem witness_PhasesEndByTimeout :
    (∀ ph ∈ [Phase.a, .b, .c, .d1, .d2, .d3],
      let s := if ph = .a ∨ ph = .b ∨ ph = .c then main ph else leaving ph
      s.ctl.phaseTimer = some 0 ∧ s.ctl.phase = ph ∧ s.ctl.mismatch = false ∧ s.ctl.lamp = .off)
      ∧ ((leaving .d1).rangeNeutral = true ∧ (withSlot 2 (slot 4) (leaving .d1)).rangeNeutral = false)
      ∧ ((leaving .d2).feedbacksClear = true ∧ (active .mainFb (leaving .d2)).feedbacksClear = false)
      ∧ ((leaving .d3).ctl.lastReq = some .road ∧ (leaving .d3).feedbacksClear = true
        ∧ (active .mainFb (leaving .d3)).feedbacksClear = false) := by
  decide +kernel
theorem witness_PhasesEndByNotification :
    ((leaving .d1).engineSlow = true ∧ (withSlot 1 (slot 901) (leaving .d1)).engineSlow = false)
      ∧ (main .c).usable .currentRange ≠ some (bank.params.pumpRange : Int)
      ∧ (pump.ctl.phase = .none ∧ pump.ctl.app ≠ .faultHold) := by decide +kernel
theorem witness_RoadIsReachedAgain :
    (∀ low, let s := settling .mainFb low (leaving .d3)
     s.ctl.mismatch = false ∧ s.ceil.content = .holdNeutral ∧ s.ctl.app = .disengaging ∧ s.ctl.phase = .d3
       ∧ (s.ctl.input .mainFb).countdown = some 0 ∧ (s.ctl.input .mainFb).pinLow = low)
      ∧ (faultHold.ctl.mismatch = false ∧ faultHold.ctl.app = .faultHold ∧ faultHold.ctl.phase = .none
        ∧ faultHold.ceil.content = .holdNeutral ∧ faultHold.ctl.lastReq = some .road
        ∧ faultHold.feedbacksClear = true ∧ faultHold.rangeNeutral = true
        ∧ (withSlot 2 (slot 4) faultHold).rangeNeutral = false ∧ (active .mainFb faultHold).feedbacksClear = false)
      ∧ (∀ low, let s := settling .auxFb low faultHold
         (s.ctl.input .auxFb).countdown = some 0 ∧ (s.ctl.input .auxFb).pinLow = low)
      ∧ ((main .a).ctl.phaseTimer = some 0 ∧ (main .a).ctl.phase = .a ∧ (main .a).engineSlow = true
        ∧ (main .a).rangeNeutral = true ∧ (main .a).feedbacksClear = true
        ∧ (main .a).ceil.content = .holdNeutral) := by decide +kernel

def parked (s : State) : State := withCtl (fun c => { c with park := ⟨true, true, none⟩ }) s
theorem witness_RequestsInRoad :
    road.ctl.app = .road ∧ road.ctl.park.active = false ∧ (parked road).ctl.park.active = true
      ∧ (withSlot 0 (slot 20) road).usable .roadSpeed = some 20 ∧ (withSlot 0 (slot 21) road).usable .roadSpeed = some 21
      ∧ (withSlot 1 (slot 900) road).usable .engineSpeed = some 900 ∧ (withSlot 1 (slot 901) road).usable .engineSpeed = some 901
      ∧ road.usable .currentRange = some 0 ∧ (withSlot 2 (slot 1) road).usable .currentRange = some 1
      ∧ (road.ctl.mainFb.active = false ∧ road.ctl.auxFb.active = false)
      ∧ (withCtl (fun c => { c with auxFb := ⟨true, true, none⟩ }) road).ctl.auxFb.active = true
      ∧ road.chassis.st = .active ∧ (stoppedPort .chassis road).chassis.st ≠ .active
      ∧ (clearedParams.rollSpeedLimit = 0 ∧ 0 < bank.params.rollSpeedLimit) := by decide +kernel
theorem witness_RequestsElsewhere :
    (main .b).ctl.app = .mainEngaging ∧ pump.ctl.app = .pump ∧ (aux .a).ctl.app = .auxEngaging ∧ roll.ctl.app = .roll
      ∧ (leaving .d2).ctl.app = .disengaging
      ∧ (let s := withCtl (fun c => { c with lastReq := some .pump }) faultHold
         s.ctl.app = .faultHold ∧ s.ctl.lastReq ≠ some .road) := by decide +kernel
theorem witness_PhaseAHoldsTheTransmission : road.ceil.content ≠ .holdNeutral := by decide +kernel
theorem witness_LockoutSuccessEndsPhaseA :
    ∀ stale, ∀ range ∈ [(0 : Int), 4], ∀ s ∈ [main .a, aux .a],
      let t := withSlot 2 (slot range) (attempting .chassis .lockout
        { s with places := { s.places with lockout := ⟨some { waits 0 with stale := stale }, none⟩ } })
      t.chassis.attempt = some ⟨.lockout, std 1 []⟩ ∧ t.chassis.st = .active
        ∧ t.places.lockout.cur = some { waits 0 with stale := stale } ∧ t.ctl.phase = .a ∧ t.ceil.content = .holdNeutral
        ∧ t.ctl.confirmed = false ∧ t.engineSlow = true ∧ t.ctl.mainFb.active = false ∧ t.ctl.auxFb.active = false
        ∧ t.rangeNeutral = decide (range = 0) := by decide +kernel
theorem witness_NotificationsEndPhaseA :
    ∀ s ∈ [main .a, aux .a], ∀ confirmed,
      let t := withCtl (fun c => { c with confirmed := confirmed }) s
      t.ctl.phase = .a ∧ t.ctl.confirmed = confirmed ∧ t.rangeNeutral = true ∧ t.engineSlow = true
        ∧ t.ceil.content = .holdNeutral ∧ t.ctl.mainFb.active = false ∧ t.ctl.auxFb.active = false
        ∧ (active .mainFb t).ctl.mainFb.active = true ∧ (active .auxFb t).ctl.auxFb.active = true
        ∧ t.ctl.guard = false ∧ t.ctl.creep = none ∧ t.ctl.overspeed = false ∧ t.ctl.speedAbsent = false := by decide +kernel
theorem witness_EngagementsReachTheirDrive :
    (∀ range ∈ [(0 : Int), 4],
      let s := withSlot 2 (slot range) (settling .mainFb true (main .b))
      s.ctl.app = .mainEngaging ∧ s.ctl.phase = .b ∧ s.ctl.mainFb.countdown = some 0 ∧ s.ctl.mainFb.pinLow = true
        ∧ s.ceil.content = .holdNeutral ∧ s.ctl.guard = false ∧ s.ctl.creep = none
        ∧ s.usable .currentRange = some range ∧ s.tables.active.params.pumpRange = 4)
      ∧ (∀ x ∈ [slot 30, slot 31, State.reset.slots[0]],
        let s := withSlot 0 x (withSlot 2 (slot 4) (main .c))
        s.ctl.phase = .c ∧ s.usable .currentRange = some (s.tables.active.params.pumpRange : Int)
          ∧ s.ceil.content = .holdPump ∧ s.ctl.guard = false ∧ s.ctl.creep = none ∧ s.usable .roadSpeed = x.value)
      ∧ (∀ x ∈ [slot 80, slot 81, State.reset.slots[0]],
        let s := withSlot 0 x (settling .auxFb true (aux .b))
        s.ctl.app = .auxEngaging ∧ s.ctl.phase = .b ∧ s.ctl.auxFb.countdown = some 0 ∧ s.ctl.auxFb.pinLow = true
          ∧ s.ceil.content = .holdNeutral ∧ s.ctl.overspeed = false ∧ s.ctl.speedAbsent = false
          ∧ s.present .roadSpeed = x.value) := by
  decide +kernel

/-- R97: an entry into ROLL above the roll speed limit of 80 sets the overspeed flag alone. -/
theorem test_roll_entered_too_fast :
    let t := after (.debouncedInputChange .auxFb) (withSlot 0 (slot 81) (settling .auxFb true (aux .b)))
    t.ctl.app = .roll ∧ t.ctl.overspeed = true ∧ t.ctl.speedAbsent = false
      ∧ t.faults.record.map (·.cause) = some .rollOverspeed := by decide +kernel

theorem witness_CeilingMovesTowardItsTarget : { pump with ceil := { pump.ceil with timer := 0 } }.ceil.timer = 0 := rfl
theorem witness_LockoutFramesCarryCodeAndRange :
    checkTemplate bank.template = none ∧ bank.template.length ≤ 8 ∧ 2 ≤ bank.template.lockWidth ∧ (3 : Nat) < 4
      ∧ (255 : Nat) < 256 := by decide +kernel
theorem witness_ReassertionPlacesTheContentAfresh :
    (∀ s ∈ [main .a, main .c, roll], s.ceil.reassert = some 0)
      ∧ (main .a).ceil.content = .holdNeutral ∧ (main .c).ceil.content = .holdPump ∧ roll.ceil.content = .restrict
      ∧ (inPhase .road .none .notEmitting).ceil.content = .notEmitting := by decide +kernel
theorem witness_EvaluationMeasuresTheCompartment :
    road.tank.comps[0].evalTimer = some 0 ∧ road.tank.comps[0].validity ≠ .disabled
      ∧ usableLevels bank.comps[0] road.slots = [754, 725] ∧ road.present .roadSpeed = some 10
      ∧ (withSlot 0 (slot 21) road).present .roadSpeed = some 21 := by decide +kernel
theorem witness_SenderGapsAreHeldThenUnknown :
    let gap := withSlot 8 (lost 7 .never) (withSlot 9 (lost 7 .never) road)
    (gap.tank.comps[0].evalTimer = some 0 ∧ usableLevels gap.tables.active.comps[0] gap.slots = []
      ∧ gap.tank.comps[0].validity = .valid ∧ 0 < gap.tables.active.comps[0].holdTime)
      ∧ { comp with holdTime := 0 }.holdTime = 0
      ∧ (let x : CompRec := ⟨.held, .low, some 1, 1, 1, 1, some 0, some 0⟩
         x.hold = some 0 ∧ x.validity = .held ∧ x.evalTimer = some 0) := by decide +kernel
theorem witness_FilterNeverPassesTheLevel :
    (160 ≤ 16 * 10 ∧ 16 * 10 ≤ 160 ∧ 159 < 16 * 10 ∧ 16 * 10 < 161) ∧ (22400 ≤ 16 * 1400 ∧ 1400 ≤ 1400) := by decide
theorem witness_VolumeFollowsTheStrapPoints :
    let pts := bank.strapList 0
    2 ≤ pts.length ∧ pts.Pairwise (fun a b => a.h < b.h) ∧ pts.Pairwise (fun a b => a.v ≤ b.v)
      ∧ pts[0]? = some ⟨0, 0⟩ ∧ pts[1]? = some ⟨200, 310⟩ ∧ pts[4]? = some ⟨1400, 3790⟩ ∧ pts[5]? = none := by decide +kernel
theorem witness_PeriodicFramesCarryTheState :
    road.tank.report = some 0
      ∧ { road with engine := { road.engine with statusTimer := some 0 } }.engine.statusTimer = some 0 := by decide +kernel

theorem witness_ReadyToServe : ReadyToServe road := by constructor <;> decide +kernel
theorem witness_ReadsOfTheFaultRecord : road.faults.record = none ∧ State.reset.faults.record.isSome
    ∧ ReadyToServe State.reset := ⟨rfl, rfl, by constructor <;> decide +kernel⟩
theorem witness_ReadsBeyondTheLastIndex : 32 ≤ (32 : Byte).toNat ∧ 4 ≤ (4 : Byte).toNat := by decide
theorem witness_WriteTableSettlesTheValue : (1 : Int) ≤ 65535 := by decide
theorem witness_WrittenFieldsReadBackAlone :
    ∃ a b, bankField 1 6 11 = some a ∧ a.spec.settle 0 = some (1, true) ∧ bankField 1 6 12 = some b := ⟨_, _, rfl, rfl, rfl⟩
theorem witness_PortControlActsByPortState :
    2 ≤ (2 : Byte).toNat ∧ ReadyToServe pump ∧ (pump.ctl.app ≠ .road ∧ pump.ctl.app ≠ .unloaded)
      ∧ ReadyToServe (faultPort .chassis .active road) :=
  ⟨by decide, by constructor <;> decide +kernel, by decide +kernel, by constructor <;> decide +kernel⟩
theorem witness_BadRequest :
    WellFormed (.badRequest .data 0 []) = true ∧ WellFormed (.badRequest .remote 8 []) = true
      ∧ WellFormed (.badRequest .data 2 [0x10, 7]) = true := by decide

def validating : State := { road with engine := { road.engine with
  inService := some ⟨request [7, 7, 1], .first, .validating⟩ } }
theorem validating_tables : TablesCoherent validating where
  marker := rfl
  image := fun _ => test_bank_is_valid
  unloaded := by decide +kernel
  cleared := by decide +kernel
  valid := fun _ => test_bank_is_valid
  loading := by decide +kernel
  storing := by
    refine ⟨fun h => absurd h (by decide +kernel), fun ⟨v, h, hv⟩ => ?_⟩
    cases h
    exact absurd hv (by decide)
  activated := by decide +kernel
theorem witness_ValidationCompletionDecidesInOrder :
    validating.engine.inService = some ⟨request [7, 7, 1], .first, .validating⟩ ∧ TablesCoherent validating
      ∧ DriveCoherent validating ∧ validating.ctl.app = .road ∧ failures validating.tables.shadow = [] :=
  ⟨rfl, validating_tables, road_drive, rfl, by decide +kernel⟩
/-- A completion whose ACTIVATE asks for no store. -/
theorem witness_ValidationWithoutStore :
    let s : State := { validating with engine := { road.engine with
      inService := some ⟨request [7, 7, 0], .first, .validating⟩ } }
    (0 : Byte) ≠ 1 ∧ TablesCoherent s ∧ DriveCoherent s ∧ s.ctl.app = .road ∧ failures s.tables.shadow = [] :=
  ⟨by decide, { validating_tables with
    storing := by
      refine ⟨fun h => absurd h (by decide +kernel), fun ⟨v, h, hv⟩ => ?_⟩
      cases h
      exact absurd hv (by decide)
    loading := by decide +kernel, activated := by decide +kernel }, road_drive, rfl, by decide +kernel⟩
theorem witness_ValidationRefused :
    let held := withCtl (fun c => { c with
      phase := .a, app := .mainEngaging, phaseTimer := some 5 }) validating
    let s : State := { held with ceil := { held.ceil with e := 0, content := .holdNeutral, reassert := some 9 } }
    s.ctl.app ≠ .road ∧ s.ctl.app ≠ .unloaded ∧ DriveCoherent s ∧ TablesCoherent s
      ∧ TablesCoherent { validating with tables := { road.tables with shadow := clearedBank } }
      ∧ (failures clearedBank).head? = some (5, 3, 0) :=
  ⟨by decide +kernel, by decide +kernel,
    ⟨by constructor <;> decide +kernel, by constructor <;> decide +kernel⟩,
    { validating_tables with
      unloaded := by decide +kernel, cleared := by decide +kernel, valid := fun _ => test_bank_is_valid }, { validating_tables with },
    by decide +kernel⟩
def loading : State := after (.powerReset ⟨0, false, false⟩) road
theorem loading_marked : loading.tables.store = ⟨bank, true⟩ := by decide +kernel
theorem witness_StoreAndLoadCompletions :
    (⟨request [7, 7, 1], .first, .storing⟩ : Service).stage = .storing ∧ (request [7, 7, 1]).data = [7, 7, 1]
      ∧ loading.tables.origin = .loading ∧ DriveCoherent loading ∧ TablesCoherent loading :=
  ⟨rfl, rfl, by decide +kernel, ⟨by constructor <;> decide +kernel, by constructor <;> decide +kernel⟩,
    { marker := by decide +kernel
      image := fun _ => by rw [loading_marked]; exact test_bank_is_valid
      unloaded := by decide +kernel
      cleared := by decide +kernel
      valid := fun h => absurd (show loading.ctl.app = .unloaded by decide +kernel) h
      loading := by decide +kernel
      storing := by
        refine ⟨fun h => absurd h (by decide +kernel), fun ⟨v, h, _⟩ => ?_⟩
        exact absurd (show loading.engine.inService = none by decide +kernel) (by rw [h]; simp)
      activated := by decide +kernel }⟩
theorem witness_CaptureKeepsTheEarliest :
    let reports : List (Cause × Option Nat × AppState × Clock) :=
      [(.engageRefused, some 1, .road, 5), (.signalLost, some 8, .road, 6), (.queueOverflow, some 1, .road, 7)]
    reports = [(.engageRefused, some 1, .road, 5)] ++ (.signalLost, some 8, .road, 6) :: [(.queueOverflow, some 1, .road, 7)]
      ∧ Cause.engageRefused.severity.code < Cause.signalLost.severity.code
      ∧ Cause.queueOverflow.severity.code ≤ Cause.signalLost.severity.code := by decide
theorem witness_ActiveBankChanges :
    TablesCoherent loading ∧ loading.tables.active ≠ (after .powerUpLoadCompletion loading).tables.active
      ∧ exec .powerUpLoadCompletion loading = .next (after .powerUpLoadCompletion loading) :=
  ⟨witness_StoreAndLoadCompletions.2.2.2.2, by decide +kernel, rfl⟩

/-- The premises of the laws that every step keeps, at a state in ROAD with a command waiting. -/
def ticking : State := { road with pending := [.frameClockTick] }
theorem ticking_slots : SlotsCoherent ticking := by
  have h : ∀ i : Fin 32, ticking.slots[i] ∈ [slot 10, slot 800, slot 0, slot 742, slot 733, State.reset.slots[0]] := by
    decide +kernel
  intro i
  have hi := h i
  simp only [List.mem_cons, List.not_mem_nil, or_false] at hi
  rcases hi with e | e | e | e | e | e <;> rw [e] <;> constructor <;> decide +kernel
theorem ticking_queues : QueuesCoherent ticking := by
  constructor <;> constructor <;> decide +kernel
theorem ticking_ports : PortsCoherent ticking := by
  refine ⟨?_, ?_, ⟨by decide +kernel, by decide +kernel, by decide +kernel, fun src f h => ?_⟩⟩
  · constructor <;> first | decide +kernel | exact fun h => absurd h (by decide +kernel)
  · constructor <;> first | decide +kernel | exact fun h => absurd h (by decide +kernel)
  · cases src with
    | response p => cases p <;> exact nomatch h
    | _ => exact nomatch h
theorem ticking_engine : EngineCoherent ticking := ⟨by decide +kernel, fun _ h => nomatch h⟩
theorem witness_EveryStepKeeps :
    SlotsCoherent ticking ∧ QueuesCoherent ticking
      ∧ (DriveCoherent ticking ∧ TablesCoherent ticking ∧ RangeAllowed ticking) ∧ PortsCoherent ticking
      ∧ EngineCoherent ticking ∧ ∃ t, step ticking = .next t :=
  ⟨ticking_slots, ticking_queues, ⟨road_drive, { road_tables with }, fun h => absurd h (by decide +kernel)⟩,
    ticking_ports, ticking_engine, ⟨_, rfl⟩⟩

end Sys2Proof.Tests
end

