-- ==== Sys2Proof/Proofs/Fields.lean ====
section
/-! PROOF. Fields within frame data: what writing a byte or a bit does to every byte and bit, what reading and writing a
field do in either byte order, and from these that a field reads and writes its own bits (R1, R2). -/

namespace Sys2Proof.Proofs.Fields

open Sys2Proof.Machine Sys2Proof.Safety

variable (d : List Byte)

/-! ## Bytes and bits of the data (R1) -/

theorem dataByte_set_same {i : Nat} (x : Byte) (h : i < d.length) : dataByte (d.set i x) i = x := by
  simp [dataByte, h]

theorem dataByte_set_other {i j : Nat} (x : Byte) (h : i ≠ j) : dataByte (d.set i x) j = dataByte d j := by
  simp [dataByte, List.getElem?_set_ne h]

theorem dataBit_set_other {i n : Nat} (x : Byte) (h : i ≠ n / 8) : dataBit (d.set i x) n = dataBit d n := by
  rw [dataBit, dataByte_set_other d x h, dataBit]

theorem getLsbD_setByteBit (x : Byte) {i : Nat} (j : Nat) (v : Bool) (hi : i < 8) :
    (setByteBit x i v).getLsbD j = if j = i then v else x.getLsbD j := by
  have one : (1#8 <<< i).getLsbD j = decide (j = i) := by
    rw [← BitVec.twoPow_eq, BitVec.getLsbD_twoPow]
    simp [hi, eq_comm]
  cases v with
  | true => by_cases hj : j = i <;> simp [setByteBit, one, hj, hi]
  | false =>
    by_cases hj : j = i <;> simp [setByteBit, one, hj]
    exact BitVec.lt_of_getLsbD

@[simp] theorem length_setDataBit (n : Nat) (v : Bool) : (setDataBit d n v).length = d.length := by simp [setDataBit]

theorem dataBit_setDataBit_same {n : Nat} (v : Bool) (h : n < 8 * d.length) : dataBit (setDataBit d n v) n = v := by
  have hb : n / 8 < d.length := by omega
  rw [dataBit, setDataBit, dataByte_set_same d _ hb, getLsbD_setByteBit _ _ _ (Nat.mod_lt n (by decide)), if_pos rfl]

theorem dataBit_setDataBit_other {n m : Nat} (v : Bool) (h : n ≠ m) : dataBit (setDataBit d n v) m = dataBit d m := by
  by_cases hb : n / 8 = m / 8
  · by_cases hl : n / 8 < d.length
    · have hm : m % 8 ≠ n % 8 := by omega
      rw [dataBit, setDataBit, ← hb, dataByte_set_same d _ hl, getLsbD_setByteBit _ _ _ (Nat.mod_lt n (by decide)),
        if_neg hm, dataBit, hb]
    · rw [setDataBit, List.set_eq_of_length_le (Nat.le_of_not_lt hl)]
  · exact dataBit_set_other d _ hb

/-! ## LOW_FIRST: bits that run upward from the start bit (R2) -/

theorem readLow_lt (start w : Nat) : readLow d start w < 2 ^ w := by
  induction w with
  | zero => simp [readLow]
  | succ w ih => rw [readLow, Nat.pow_succ]; split <;> omega

theorem testBit_readLow (start w k : Nat) :
    (readLow d start w).testBit k = (decide (k < w) && dataBit d (start + k)) := by
  induction w with
  | zero => simp [readLow]
  | succ w ih =>
    have or_top : readLow d start w + 2 ^ w = 2 ^ w ||| readLow d start w := by
      simpa [Nat.add_comm] using Nat.two_pow_add_eq_or_of_lt (readLow_lt d start w) 1
    by_cases hk : k = w
    · have below : (readLow d start w).testBit w = false := Nat.testBit_lt_two_pow (readLow_lt d start w)
      subst hk
      cases hb : dataBit d (start + k) <;> simp [readLow, hb, or_top, below]
    · have hlt : k < w + 1 ↔ k < w := by omega
      cases hb : dataBit d (start + w) <;> simp [readLow, hb, or_top, ih, hlt, Ne.symm hk]

@[simp] theorem length_writeLow (start v w : Nat) : (writeLow d start v w).length = d.length := by
  induction w with
  | zero => rfl
  | succ w ih => simp [writeLow, ih]

theorem dataBit_writeLow_outside {start n : Nat} (v w : Nat) (h : n < start ∨ start + w ≤ n) :
    dataBit (writeLow d start v w) n = dataBit d n := by
  induction w with
  | zero => rfl
  | succ w ih => rw [writeLow, dataBit_setDataBit_other _ _ (by omega), ih (by omega)]

theorem dataBit_writeLow_inside {start w k : Nat} (v : Nat) (hk : k < w) (h : start + w ≤ 8 * d.length) :
    dataBit (writeLow d start v w) (start + k) = v.testBit k := by
  induction w with
  | zero => omega
  | succ w ih =>
    by_cases hw : k = w
    · subst hw
      exact dataBit_setDataBit_same _ _ (by rw [length_writeLow]; omega)
    · rw [writeLow, dataBit_setDataBit_other _ _ (by omega), ih (by omega) (by omega)]

theorem readLow_writeLow {start v w : Nat} (h : start + w ≤ 8 * d.length) (hv : v < 2 ^ w) :
    readLow (writeLow d start v w) start w = v := by
  apply Nat.eq_of_testBit_eq
  intro k
  rw [testBit_readLow]
  by_cases hk : k < w
  · simp [hk, dataBit_writeLow_inside d v hk h]
  · have hvk : v < 2 ^ k := Nat.lt_of_lt_of_le hv (Nat.pow_le_pow_right (by decide) (by omega))
    simp [hk, Nat.testBit_lt_two_pow hvk]

/-! ## The fields by byte order (R2) -/

section
variable {f : Field}

theorem readField_lowFirst (h : f.order = .lowFirst) : readField f d = readLow d f.start f.width := by
  simp [readField, h]

theorem writeField_lowFirst (v : Nat) (h : f.order = .lowFirst) :
    writeField f v d = writeLow d f.start v f.width := by
  simp [writeField, h]

theorem readField_highFirst_byte (h : f.order = .highFirst) (hw : f.width = 8) :
    readField f d = (dataByte d (f.start / 8)).toNat := by
  simp [readField, h, hw]

theorem writeField_highFirst_byte (v : Nat) (h : f.order = .highFirst) (hw : f.width = 8) :
    writeField f v d = d.set (f.start / 8) (BitVec.ofNat 8 v) := by
  simp [writeField, h, hw]

theorem readField_highFirst_word (h : f.order = .highFirst) (hw : f.width = 16) :
    readField f d = 256 * (dataByte d (f.start / 8)).toNat + (dataByte d (f.start / 8 + 1)).toNat := by
  simp [readField, h, hw]

theorem writeField_highFirst_word (v : Nat) (h : f.order = .highFirst) (hw : f.width = 16) :
    writeField f v d
      = (d.set (f.start / 8) (BitVec.ofNat 8 (v / 256))).set (f.start / 8 + 1) (BitVec.ofNat 8 v) := by
  simp [writeField, h, hw]

theorem width_of_highFirst (h : f.order = .highFirst) (hg : f.geometryOk = true) : f.width = 8 ∨ f.width = 16 := by
  simp only [Field.geometryOk, h, decide_eq_true_eq] at hg
  exact hg.2

theorem fits_lowFirst (h : f.order = .lowFirst) (length : Nat) :
    f.fits length = true ↔ f.start + f.width ≤ 8 * length := by
  simp [Field.fits, h]

theorem fits_highFirst (h : f.order = .highFirst) (length : Nat) :
    f.fits length = true ↔ f.start / 8 + f.width / 8 ≤ length := by
  simp [Field.fits, h]

theorem mem_bits_lowFirst (h : f.order = .lowFirst) (n : Nat) :
    n ∈ f.bits ↔ f.start ≤ n ∧ n < f.start + f.width := by
  simp only [Field.bits, h, List.mem_map, List.mem_range]
  exact ⟨fun ⟨k, hk, e⟩ => by omega, fun hn => ⟨n - f.start, by omega⟩⟩

/-- A HIGH_FIRST field occupies whole bytes. -/
theorem mem_bits_highFirst (h : f.order = .highFirst) (n : Nat) :
    n ∈ f.bits ↔ f.start / 8 ≤ n / 8 ∧ n / 8 < f.start / 8 + f.width / 8 := by
  simp only [Field.bits, h, List.mem_map, List.mem_range]
  exact ⟨fun ⟨k, hk, e⟩ => by omega, fun hn => ⟨n - 8 * (f.start / 8), by omega⟩⟩

end

/-! ## What a written field holds and what it leaves unchanged (R2) -/

@[simp] theorem length_writeField (f : Field) (v : Nat) : (writeField f v d).length = d.length := by
  unfold writeField
  split
  · exact length_writeLow d ..
  · split <;> simp

theorem dataBit_writeField_of_notMem {f : Field} {n : Nat} (v : Nat) (hg : f.geometryOk = true) (hn : n ∉ f.bits) :
    dataBit (writeField f v d) n = dataBit d n := by
  cases ho : f.order with
  | lowFirst =>
    rw [mem_bits_lowFirst ho] at hn
    rw [writeField_lowFirst d v ho, dataBit_writeLow_outside d v f.width (by omega)]
  | highFirst =>
    rw [mem_bits_highFirst ho] at hn
    rcases width_of_highFirst ho hg with hw | hw
    · rw [writeField_highFirst_byte d v ho hw, dataBit_set_other d _ (by omega)]
    · rw [writeField_highFirst_word d v ho hw, dataBit_set_other _ _ (by omega), dataBit_set_other d _ (by omega)]

theorem readField_writeField {f : Field} {v : Nat} (hg : f.geometryOk = true) (hf : f.fits d.length = true)
    (hv : v < 2 ^ f.width) : readField f (writeField f v d) = v := by
  cases ho : f.order with
  | lowFirst =>
    rw [writeField_lowFirst d v ho, readField_lowFirst _ ho]
    exact readLow_writeLow d ((fits_lowFirst ho _).mp hf) hv
  | highFirst =>
    rw [fits_highFirst ho] at hf
    rcases width_of_highFirst ho hg with hw | hw <;> rw [hw] at hf hv
    · rw [writeField_highFirst_byte d v ho hw, readField_highFirst_byte _ ho hw, dataByte_set_same d _ (by omega),
        BitVec.toNat_ofNat, Nat.mod_eq_of_lt hv]
    · have high : dataByte (writeField f v d) (f.start / 8) = BitVec.ofNat 8 (v / 256) := by
        rw [writeField_highFirst_word d v ho hw, dataByte_set_other _ _ (by omega), dataByte_set_same d _ (by omega)]
      have low : dataByte (writeField f v d) (f.start / 8 + 1) = BitVec.ofNat 8 v := by
        rw [writeField_highFirst_word d v ho hw, dataByte_set_same _ _ (by rw [List.length_set]; omega)]
      rw [readField_highFirst_word _ ho hw, high, low, BitVec.toNat_ofNat, BitVec.toNat_ofNat]
      omega

/-- Settles O23: reading by the equation of each byte order, writing by the rules of the written field. -/
theorem fieldsReadAndWriteTheirBits : Obligations.FieldsReadAndWriteTheirBits := by
  unfold Obligations.FieldsReadAndWriteTheirBits
  intro f d hg
  refine ⟨fun _ => rfl, fun ho k => ?_, fun ho hw => readField_highFirst_byte d ho hw,
    fun ho hw => readField_highFirst_word d ho hw, fun v hf hv => ?_⟩
  · rw [readField_lowFirst d ho, testBit_readLow]
  · exact ⟨readField_writeField d hg hf hv, length_writeField d f v,
      fun _ hn => dataBit_writeField_of_notMem d v hg hn⟩

end Sys2Proof.Proofs.Fields
end

/-! PROOF. Grading an update: when a raw value is the not-available pattern, what it is converted to, which values are good,
and what an error event of a slot keeps (R54 to R56, R58 to R60, R63). -/

namespace Sys2Proof.Proofs.Grading

open Sys2Proof.Machine

/-! ## Conversion (R55) -/

theorem clampInt_eq_max_min {low high : Int} (h : low ≤ high) (v : Int) : clampInt low high v = max low (min high v) := by
  unfold clampInt
  omega

theorem convert_eq_max_min (d : SlotDef) (r : Nat) :
    d.convert r = max (-32768) (min 32767 (((r * d.gain / 1024 : Nat) : Int) + d.offset)) :=
  clampInt_eq_max_min (by decide) _

/-! ## Grading (R54 to R56) -/

theorem notAvailable_iff (w r : Nat) : notAvailable w r = true ↔ 2 ≤ w ∧ r = 2 ^ w - 1 := by
  simp [notAvailable]

theorem grade_shortFrame (d : SlotDef) : d.grade .shortFrame = none := rfl

theorem grade_raw_of_notAvailable (d : SlotDef) {r w : Nat} (h : notAvailable w r = true) : d.grade (.raw r w) = none :=
  if_pos h

theorem grade_raw_of_available (d : SlotDef) {r w : Nat} (h : ¬notAvailable w r = true) :
    d.grade (.raw r w) = if d.plausMin ≤ d.convert r ∧ d.convert r ≤ d.plausMax then some (d.convert r) else none := by
  have graded : d.grade (.raw r w)
      = if d.convert r < d.plausMin ∨ d.plausMax < d.convert r then none else some (d.convert r) := if_neg h
  by_cases plausible : d.plausMin ≤ d.convert r ∧ d.convert r ≤ d.plausMax
  · rw [graded, if_pos plausible, if_neg (by omega)]
  · rw [graded, if_neg plausible, if_pos (by omega)]

/-! ## Error events (R58 to R60, R63) -/

@[simp] theorem startHold_stamp (x : Slot) (d : SlotDef) : (x.startHold d).stamp = x.stamp := rfl

theorem startHold_value (x : Slot) {d : SlotDef} (h : 0 < d.holdTime) : (x.startHold d).value = x.value := if_neg h.ne'

/-- The timestamp is kept at every error, also where hold time 0 lets the value go. -/
theorem takeError_stamp (x : Slot) (d : SlotDef) : (x.takeError d).stamp = x.stamp := by
  unfold Slot.takeError
  dsimp only
  split
  case isTrue =>  -- LOST: the hold restarts just where a recovery is under way (R60)
    split <;> simp
  case isFalse =>  -- not LOST: the hold starts just where HC reaches 255 (R59)
    split <;> simp

/-- Only an error that starts the hold touches the value, and just hold time 0 lets the value go there. -/
theorem takeError_value (x : Slot) {d : SlotDef} (h : 0 < d.holdTime) : (x.takeError d).value = x.value := by
  unfold Slot.takeError
  dsimp only
  split
  case isTrue =>  -- LOST (R60)
    split <;> simp [startHold_value _ h]
  case isFalse =>  -- not LOST (R58, R59)
    split <;> simp [startHold_value _ h]

/-- Settles O24: a raw value is the not-available pattern or is converted, and an error event keeps value and timestamp. -/
theorem gradingConvertsAndChecks : Obligations.GradingConvertsAndChecks := by
  unfold Obligations.GradingConvertsAndChecks
  intro d r w
  dsimp only
  rw [← convert_eq_max_min]
  refine ⟨grade_shortFrame d, fun hw hr => ?pattern, fun h => ?converted,
    fun x hold => ⟨takeError_value x hold, takeError_stamp x d⟩⟩
  case pattern => exact grade_raw_of_notAvailable d ((notAvailable_iff w r).mpr ⟨hw, hr⟩)
  case converted =>
    refine grade_raw_of_available d fun hna => ?_
    obtain ⟨hw, hr⟩ := (notAvailable_iff w r).mp hna
    exact h.elim (fun narrow => absurd hw narrow.not_ge) (fun other => other hr)

end Sys2Proof.Proofs.Grading

/-! PROOF. Requests of the Drive Interlock Controller: the preconditions of an engagement in the order they are tested, what
a request in ROAD does by the first that fails, and what the other requests do by the apparatus state (R82 to R84, R86, R91). -/

namespace Sys2Proof.Proofs.Requests

open Sys2Proof.Machine Sys2Proof.Laws.Terms

variable {s : State} {r : Request} {n : Nat}

/-! ## The conditions as the manual words them (R64, R79, R83) -/

theorem usableAtMost_iff {role : Role} {limit : Nat} :
    s.usableAtMost role limit = true ↔ ∃ v, s.usable role = some v ∧ v ≤ (limit : Int) := by
  unfold State.usableAtMost
  cases s.usable role <;> simp

theorem engineSlow_iff :
    s.engineSlow = true ↔ ∃ v, s.usable .engineSpeed = some v ∧ v ≤ (s.tables.active.params.engageMax : Int) :=
  usableAtMost_iff

theorem rangeNeutral_iff :
    s.rangeNeutral = true ↔ s.usable .currentRange = some (s.tables.active.params.neutral : Int) :=
  decide_eq_true_iff

theorem feedbacksClear_iff : s.feedbacksClear = true ↔ s.ctl.mainFb.active = false ∧ s.ctl.auxFb.active = false := by
  simp [State.feedbacksClear]

/-! ## The first precondition that fails (R83, R84) -/

theorem firstFailing_append (l m : List (Nat × Bool)) :
    firstFailing (l ++ m) = (firstFailing l).or (firstFailing m) := by
  induction l with
  | nil => rfl
  | cons x l ih =>
    obtain ⟨n, ok⟩ := x
    cases ok with
    | true => exact ih
    | false => rfl

/-- Preconditions 2 to 6, which both engagements test. -/
theorem firstFailing_common (s : State) :
    firstFailing s.commonPreconditions =
      if s.usableAtMost .roadSpeed s.tables.active.params.stationary then
        if s.engineSlow then
          if s.rangeNeutral then
            if s.feedbacksClear then
              if s.chassis.st == .active then none else some 6
            else some 5
          else some 4
        else some 3
      else some 2 := rfl

theorem mainRefusal_unparked (park : s.ctl.park.active = false) : s.mainRefusal = some 1 := by
  simp [State.mainRefusal, firstFailing, park]

theorem mainRefusal_parked (park : s.ctl.park.active = true) :
    s.mainRefusal = firstFailing s.commonPreconditions := by
  simp [State.mainRefusal, firstFailing, park]

theorem rollRefusal_eq (s : State) :
    s.rollRefusal = (firstFailing s.commonPreconditions).or
      (if 0 < s.tables.active.params.rollSpeedLimit then none else some 7) := by
  simp [State.rollRefusal, firstFailing_append, firstFailing]

/-! ## PUMP and ROLL in ROAD (R82 to R84) -/

section Road
variable (road : s.ctl.app = .road)
include road

theorem requestEvent_pump_refused (h : s.mainRefusal = some n) :
    requestEvent .pump s = report .engageRefused (some n) s := by
  simp [requestEvent, road, h]

theorem requestEvent_pump_engages (h : s.mainRefusal = none) : requestEvent .pump s = enterPhaseA .mainEngaging s := by
  simp [requestEvent, road, h]

theorem requestEvent_roll_refused (h : s.rollRefusal = some n) :
    requestEvent .roll s = report .engageRefused (some n) s := by
  simp [requestEvent, road, h]

theorem requestEvent_roll_engages (h : s.rollRefusal = none) : requestEvent .roll s = enterPhaseA .auxEngaging s := by
  simp [requestEvent, road, h]

/-- A precondition of both engagements refuses either request alike. -/
theorem requestEvent_common_refused (asks : (r = .pump ∧ s.ctl.park.active = true) ∨ r = .roll)
    (h : firstFailing s.commonPreconditions = some n) : requestEvent r s = report .engageRefused (some n) s := by
  rcases asks with ⟨rfl, park⟩ | rfl
  · exact requestEvent_pump_refused road ((mainRefusal_parked park).trans h)
  · exact requestEvent_roll_refused road (by rw [rollRefusal_eq, h, Option.some_or])

end Road

/-! ## The engagement begun (R86, R91) -/

/-- Phase A does not end at its entry, since the entry clears the confirmation. -/
theorem testPhaseA_unconfirmed (h : s.ctl.confirmed = false) : testPhaseA s = s := by
  simp [testPhaseA, State.phaseADone, h]

theorem enterPhaseA_app_phase (app : AppState) (s : State) :
    (enterPhaseA app s).ctl.app = app ∧ (enterPhaseA app s).ctl.phase = .a := by
  unfold enterPhaseA
  dsimp only
  rw [testPhaseA_unconfirmed] <;> simp [Controller.setLamp, Controller.changeApp]

/-! ## The other requests, by the apparatus state (R82) -/

theorem requestEvent_road_in_road (h : s.ctl.app = .road) : requestEvent .road s = s := by
  simp [requestEvent, h]

theorem requestEvent_on_main (h : s.ctl.app = .mainEngaging ∨ s.ctl.app = .pump) :
    requestEvent .pump s = s ∧ requestEvent .roll s = report .requestRefused (some 2) s := by
  rcases h with h | h <;> simp [requestEvent, h]

theorem requestEvent_on_aux (h : s.ctl.app = .auxEngaging ∨ s.ctl.app = .roll) :
    requestEvent .roll s = s ∧ requestEvent .pump s = report .requestRefused (some 1) s := by
  rcases h with h | h <;> simp [requestEvent, h]

theorem requestEvent_road_disengages
    (h : s.ctl.app = .mainEngaging ∨ s.ctl.app = .pump ∨ s.ctl.app = .auxEngaging ∨ s.ctl.app = .roll) :
    requestEvent .road s = Safety.disengagingThrough .operator s := by
  rw [← enterDisengaging_through]
  rcases h with h | h | h | h <;> simp [requestEvent, h]

theorem requestEvent_disengaging (r : Request) (h : s.ctl.app = .disengaging) : requestEvent r s = s := by
  simp [requestEvent, h]

theorem requestEvent_faultHold (r : Request) (h : s.ctl.app = .faultHold) (last : s.ctl.lastReq ≠ some .road) :
    requestEvent r s = s := by
  simp [requestEvent, h, testFaultHold, State.faultHoldOver, last]

/-- Settles O32: in ROAD by the first precondition that fails, elsewhere by the apparatus state. -/
theorem requestsAreTakenOrRefused : Obligations.RequestsAreTakenOrRefused := by
  unfold Obligations.RequestsAreTakenOrRefused
  refine ⟨fun s road => ?inRoad, fun s => ⟨requestEvent_road_in_road, requestEvent_on_main, requestEvent_on_aux,
    requestEvent_road_disengages, requestEvent_disengaging, requestEvent_faultHold⟩⟩
  dsimp only
  simp only [← engineSlow_iff, ← usableAtMost_iff, ← rangeNeutral_iff, ← feedbacksClear_iff]
  have refused {r : Request} {n : Nat} := requestEvent_common_refused (r := r) (n := n) road
  have moving (moves : ¬s.usableAtMost .roadSpeed s.tables.active.params.stationary = true) :
      firstFailing s.commonPreconditions = some 2 := by
    simp [firstFailing_common, moves]
  refine ⟨fun park => requestEvent_pump_refused road (mainRefusal_unparked park),
    fun park moves => refused (.inl ⟨rfl, park⟩) (moving moves), fun moves => refused (.inr rfl) (moving moves),
    fun r asks still => ⟨fun fast => refused asks ?fast, fun slow away => refused asks ?notNeutral,
      fun slow neutral held => refused asks ?feedback, fun slow neutral released silent => refused asks ?chassis,
      fun slow neutral released active => ?met⟩,
    fun app _ => enterPhaseA_app_phase app s⟩
  case fast => simp [firstFailing_common, still, fast]
  case notNeutral => simp [firstFailing_common, still, slow, away]
  case feedback => simp [firstFailing_common, still, slow, neutral, held]
  case chassis => simp [firstFailing_common, still, slow, neutral, released, silent]
  case met =>
    have common : firstFailing s.commonPreconditions = none := by
      simp [firstFailing_common, still, slow, neutral, released, active]
    refine ⟨?pump, ?rollLimitZero, ?roll⟩
    case pump =>
      rintro rfl
      have park : s.ctl.park.active = true := by simpa using asks
      exact requestEvent_pump_engages road ((mainRefusal_parked park).trans common)
    case rollLimitZero =>
      rintro rfl limit
      exact requestEvent_roll_refused road (by simp [rollRefusal_eq, common, limit])
    case roll =>
      rintro rfl limit
      exact requestEvent_roll_engages road (by simp [rollRefusal_eq, common, limit])

end Sys2Proof.Proofs.Requests

/-! PROOF. Pump protection: the compartments that take part, the intake pressure, and the condition as a whole (R140). -/

namespace Sys2Proof.Proofs.PumpProtection

open Sys2Proof.Machine

variable {s : State}

/-! ## The usable value of a slot (R64) -/

theorem slotUsable_eq_some_iff {x : Slot} {v : Int} :
    x.usable = some v ↔ (x.status = .healthy ∨ x.status = .suspect) ∧ x.value = some v := by
  unfold Slot.usable
  cases x.status <;> simp

/-! ## The conditions (R140) -/

theorem countsForPump_iff {c : Fin 4} :
    s.countsForPump c = true ↔
      s.tables.active.comps[c].enabled = true ∧ s.tables.active.comps[c].feedsPump = true
      ∧ (s.tank.comps[c].validity = .valid ∨ s.tank.comps[c].validity = .held) := by
  simp [State.countsForPump, and_assoc]

theorem feedsEmpty_iff :
    s.feedsEmpty = true ↔
      (∃ c, s.countsForPump c = true) ∧ ∀ c, s.countsForPump c = true → s.tank.comps[c].band = .empty := by
  simp [State.feedsEmpty, Bool.or_eq_true, imp_iff_not_or]

theorem noIntake_iff :
    s.noIntake = true ↔ ¬∃ i v, s.tables.active.roles.intakePressure = some i ∧ s.slots[i].usable = some v
      ∧ s.tables.active.params.intakeMin ≤ v := by
  unfold State.noIntake State.usable RoleMap.get
  cases s.tables.active.roles.intakePressure with
  | none => simp
  | some i => cases h : s.slots[i].usable <;> simp [h, -Fin.getElem_fin]

theorem protectionHolds_iff :
    s.protectionHolds = true ↔
      (s.ctl.app = .pump ∨ s.ctl.app = .roll) ∧ s.feedsEmpty = true ∧ s.noIntake = true := by
  simp [State.protectionHolds, and_assoc]

/-- Settles O36: each of the three conditions as the manual words it. -/
theorem pumpProtectionNeedsItsThreeConditions : Obligations.PumpProtectionNeedsItsThreeConditions := by
  unfold Obligations.PumpProtectionNeedsItsThreeConditions
  intro s
  simp only [protectionHolds_iff, feedsEmpty_iff, countsForPump_iff, noIntake_iff, slotUsable_eq_some_iff, and_assoc]

end Sys2Proof.Proofs.PumpProtection

/-! PROOF. Evaluations of a compartment: the filter shift and the band as the manual words them, what an evaluation does by
whether a sender is usable, and the expiry of the hold (R129 to R138, R143). -/

namespace Sys2Proof.Proofs.TankEvaluation

open Sys2Proof.Machine Sys2Proof.Safety Sys2Proof.Laws.Terms

variable {s : State} {c : Fin 4} {e : CompEntry}

/-! ## The filter shift and the band (R135, R138) -/

theorem filterShift_moving (h : ∃ v, s.present .roadSpeed = some v ∧ (s.tables.active.params.stationary : Int) < v) :
    s.filterShift e = e.kMoving := by
  obtain ⟨v, present, fast⟩ := h
  simp [State.filterShift, present, fast]

theorem filterShift_still (h : ¬∃ v, s.present .roadSpeed = some v ∧ (s.tables.active.params.stationary : Int) < v) :
    s.filterShift e = e.kStill := by
  unfold State.filterShift
  cases present : s.present .roadSpeed with
  | none => rfl
  | some v => exact if_neg fun fast => h ⟨v, present, fast⟩

theorem bandOf_eq (e : CompEntry) (prev : Band) (v p : Nat) :
    bandOf e prev v p =
      if v ≤ e.emptyVolume then .empty
      else if prev = .low ∨ prev = .empty then
        if p < e.lowThreshold + e.hysteresis then .low else .normal
      else if p ≤ e.lowThreshold then .low else .normal := by
  cases prev <;> simp [bandOf]

/-! ## The stages of an evaluation (R130 to R138) -/

theorem setComp_setComp (x y : CompRec) : (s.setComp c x).setComp c y = s.setComp c y := by
  simp [State.setComp]

theorem evaluateStages_noSender (live : s.tank.comps[c].validity ≠ .disabled)
    (gap : usableLevels s.tables.active.comps[c] s.slots = []) : evaluateStages c s = evaluateNoSender c s := by
  unfold evaluateStages
  dsimp only
  rw [if_neg live, senderLevels_eq, gap]

theorem evaluateStages_measures (live : s.tank.comps[c].validity ≠ .disabled)
    (usable : usableLevels s.tables.active.comps[c] s.slots ≠ []) :
    evaluateStages c s = s.setComp c (s.tank.comps[c].measure s.tables.active.comps[c] (s.tables.active.strapList c)
      (s.filterShift s.tables.active.comps[c]) (combineLevels (usableLevels s.tables.active.comps[c] s.slots))) := by
  obtain ⟨l, ls, levels⟩ := List.exists_cons_of_ne_nil usable
  unfold evaluateStages
  dsimp only
  rw [if_neg live, senderLevels_eq, levels]

/-! ## The record without a usable sender (R132, R133) -/

theorem becomeUnknown_eq (c : Fin 4) (s : State) :
    becomeUnknown c s = report .tankUnknown (some c.val)
      (s.setComp c ⟨.unknown, .none, none, 0, 0, 0, none, s.tank.comps[c].evalTimer⟩) := rfl

theorem evaluateNoSender_valid_holds (valid : s.tank.comps[c].validity = .valid)
    (time : 0 < s.tables.active.comps[c].holdTime) :
    evaluateNoSender c s = s.setComp c
      { s.tank.comps[c] with validity := .held, hold := some (s.tables.active.comps[c].holdTime * 100) } := by
  unfold evaluateNoSender
  dsimp only
  rw [valid]
  exact if_neg time.ne'

theorem evaluateNoSender_valid_unknown (valid : s.tank.comps[c].validity = .valid)
    (time : s.tables.active.comps[c].holdTime = 0) : evaluateNoSender c s = becomeUnknown c s := by
  unfold evaluateNoSender
  dsimp only
  rw [valid]
  exact if_pos time

theorem evaluateNoSender_stands (h : s.tank.comps[c].validity = .held ∨ s.tank.comps[c].validity = .unknown) :
    evaluateNoSender c s = s := by
  unfold evaluateNoSender
  dsimp only
  rcases h with h | h <;> rw [h]

/-! ## The expiries (R129, R133, R143) -/

/-- The evaluation timer of the compartment reloaded, as its expiry does before the evaluation (R129). -/
def rearmed (c : Fin 4) (s : State) : State := s.setComp c { s.tank.comps[c] with evalTimer := some 100 }

theorem rearmed_comps : (rearmed c s).tank.comps[c] = { s.tank.comps[c] with evalTimer := some 100 } :=
  State.setComp_comps s c _

theorem rearmed_validity : (rearmed c s).tank.comps[c].validity = s.tank.comps[c].validity := by
  rw [rearmed_comps]

@[simp] theorem rearmed_tables : (rearmed c s).tables = s.tables := rfl

@[simp] theorem rearmed_slots : (rearmed c s).slots = s.slots := rfl

@[simp] theorem rearmed_filterShift : (rearmed c s).filterShift e = s.filterShift e := rfl

@[simp] theorem setComp_rearmed (y : CompRec) : (rearmed c s).setComp c y = s.setComp c y := setComp_setComp _ y

theorem exec_evaluationTimerExpiry (expired : s.tank.comps[c].evalTimer = some 0) :
    exec (.evaluationTimerExpiry c) s = .next (evaluateComp c (rearmed c s)) :=
  congrArg Host.Outcome.next (if_pos expired)

theorem not_differs_iff {x y : CompRec} : ¬x.differs y = true ↔ y.band = x.band ∧ x.validity = y.validity := by
  simp [CompRec.differs, eq_comm (a := y.band)]

/-- The level report of an evaluation is placed just where the band or the validity changes. -/
theorem evaluateComp_eq (c : Fin 4) (s : State) :
    evaluateComp c s =
      if (evaluateStages c s).tank.comps[c].band = s.tank.comps[c].band
        ∧ s.tank.comps[c].validity = (evaluateStages c s).tank.comps[c].validity
      then evaluateStages c s else levelReport (evaluateStages c s) := by
  unfold evaluateComp
  dsimp only
  rw [← ite_not]
  simp only [not_differs_iff]

theorem evaluateComp_reports {t : State} (stages : evaluateStages c s = t)
    (change : s.tank.comps[c].validity ≠ t.tank.comps[c].validity) : evaluateComp c s = levelReport t := by
  rw [evaluateComp_eq, stages, if_neg fun ⟨_, same⟩ => change same]

theorem evaluateComp_stands (stages : evaluateStages c s = s) : evaluateComp c s = s := by
  rw [evaluateComp_eq, stages, if_pos ⟨rfl, rfl⟩]

/-- Settles O40: the stages write the measured record, and the report follows a change. -/
theorem evaluationMeasuresTheCompartment : Obligations.EvaluationMeasuresTheCompartment := by
  unfold Obligations.EvaluationMeasuresTheCompartment
  intro s c expired live
  dsimp only
  intro usable k moves stands
  have shift : s.filterShift s.tables.active.comps[c] = k := by
    by_cases moving : ∃ v, s.present .roadSpeed = some v ∧ (s.tables.active.params.stationary : Int) < v
    · exact (filterShift_moving moving).trans (moves moving).symm
    · exact (filterShift_still moving).trans (stands moving).symm
  have measured := evaluateStages_measures (s := rearmed c s) (c := c) (by rwa [rearmed_validity]) usable
  rw [exec_evaluationTimerExpiry expired, evaluateComp_eq, measured]
  simp only [rearmed_comps, rearmed_tables, rearmed_slots, rearmed_filterShift, setComp_rearmed, State.setComp_comps,
    shift, CompRec.measure, filterNext_eq, bandOf_eq]
  rfl

/-- Settles O41: by the validity at the evaluation, and the hold's expiry. -/
theorem senderGapsAreHeldThenUnknown : Obligations.SenderGapsAreHeldThenUnknown := by
  unfold Obligations.SenderGapsAreHeldThenUnknown
  intro s c
  dsimp only
  refine ⟨fun expired gap => ?_, fun expired held => congrArg Host.Outcome.next (if_pos ⟨expired, held⟩)⟩
  have stages (live : s.tank.comps[c].validity ≠ .disabled) :
      evaluateStages c (rearmed c s) = evaluateNoSender c (rearmed c s) :=
    evaluateStages_noSender (by rwa [rearmed_validity]) gap
  rw [exec_evaluationTimerExpiry expired]
  refine ⟨fun valid time => ?held, fun valid time => ?unknown, fun h => ?stands⟩
  case held =>
    have held := (stages (by rw [valid]; decide)).trans
      (evaluateNoSender_valid_holds (rearmed_validity.trans valid) time)
    rw [setComp_rearmed, rearmed_comps] at held
    rw [evaluateComp_reports held (by rw [rearmed_validity, valid, State.setComp_comps]; nofun)]
    rfl
  case unknown =>
    have unknown := (stages (by rw [valid]; decide)).trans
      (evaluateNoSender_valid_unknown (rearmed_validity.trans valid) time)
    rw [becomeUnknown_eq, setComp_rearmed, rearmed_comps] at unknown
    rw [evaluateComp_reports unknown (by rw [rearmed_validity, valid, report_tank, State.setComp_comps]; nofun)]
    rfl
  case stands =>
    have live : s.tank.comps[c].validity ≠ .disabled := by rcases h with h | h <;> rw [h] <;> decide
    rw [evaluateComp_stands ((stages live).trans (evaluateNoSender_stands (by rwa [rearmed_validity])))]
    rfl

end Sys2Proof.Proofs.TankEvaluation

/-! PROOF. The volume at a level: the segment of the strap points it is taken from, and its bounds (R136, R137). -/

namespace Sys2Proof.Proofs.StrapVolume

open Sys2Proof.Machine

variable {a b : StrapPoint} {l : Nat} {pts rest : List StrapPoint}

/-! ## One segment (R136) -/

/-- The straight line between two strap points, rounded half up. -/
def lineVolume (a b : StrapPoint) (l : Nat) : Nat :=
  a.v + ((l - a.h) * (b.v - a.v) + (b.h - a.h) / 2) / (b.h - a.h)

theorem lineVolume_start (rises : a.h < b.h) : lineVolume a b a.h = a.v := by
  have half : (b.h - a.h) / 2 / (b.h - a.h) = 0 := Nat.div_eq_of_lt (by omega)
  simp [lineVolume, half]

theorem le_lineVolume (a b : StrapPoint) (l : Nat) : a.v ≤ lineVolume a b l := Nat.le_add_right _ _

theorem lineVolume_le (grows : a.v ≤ b.v) (from_a : a.h ≤ l) (below_b : l < b.h) : lineVolume a b l ≤ b.v := by
  have rise : ((l - a.h) * (b.v - a.v) + (b.h - a.h) / 2) / (b.h - a.h) < b.v - a.v + 1 := by
    rw [Nat.div_lt_iff_lt_mul (by omega)]
    calc (l - a.h) * (b.v - a.v) + (b.h - a.h) / 2
        ≤ (b.h - a.h) * (b.v - a.v) + (b.h - a.h) / 2 := by gcongr
      _ < (b.h - a.h) * (b.v - a.v) + (b.h - a.h) := by omega
      _ = (b.v - a.v + 1) * (b.h - a.h) := by ring
  unfold lineVolume
  omega

/-! ## The segment of a level (R136) -/

theorem strapVolume_low (h : l ≤ a.h) : strapVolume (a :: rest) l = a.v := by
  cases rest with
  | nil => rfl
  | cons b rest => exact if_pos h

theorem strapVolume_line (rises : a.h < b.h) (from_a : a.h ≤ l) (below_b : l < b.h) :
    strapVolume (a :: b :: rest) l = lineVolume a b l := by
  rcases from_a.eq_or_lt with rfl | above
  · rw [strapVolume_low le_rfl, lineVolume_start rises]
  · exact (if_neg above.not_ge).trans (if_pos below_b)

theorem strapVolume_skip (rises : a.h < b.h) (h : b.h ≤ l) :
    strapVolume (a :: b :: rest) l = strapVolume (b :: rest) l :=
  (if_neg (rises.trans_le h).not_ge).trans (if_neg h.not_gt)

theorem head_le_of_mem (rising : (a :: rest).Pairwise (fun a b => a.h < b.h)) (hb : b ∈ a :: rest) : a.h ≤ b.h := by
  rcases List.mem_cons.mp hb with rfl | later
  · exact le_rfl
  · exact (List.rel_of_pairwise_cons rising later).le

theorem strapVolume_between (rising : pts.Pairwise (fun a b => a.h < b.h)) {i : Nat} (ha : pts[i]? = some a)
    (hb : pts[i + 1]? = some b) (from_a : a.h ≤ l) (below_b : l < b.h) : strapVolume pts l = lineVolume a b l := by
  induction pts generalizing i with
  | nil => simp at ha
  | cons p pts ih =>
    obtain ⟨rises, tail_rising⟩ := List.pairwise_cons.mp rising
    cases i with
    | zero =>
      obtain rfl : p = a := by simpa using ha
      obtain ⟨rest, rfl⟩ : ∃ rest, pts = b :: rest := List.head?_eq_some_iff.mp (List.head?_eq_getElem?.trans hb)
      exact strapVolume_line (rises b List.mem_cons_self) from_a below_b
    | succ i =>
      have in_tail : a ∈ pts := List.mem_of_getElem? ha
      obtain ⟨q, rest, rfl⟩ := List.exists_cons_of_ne_nil (List.ne_nil_of_mem in_tail)
      have q_le : q.h ≤ l := (head_le_of_mem tail_rising in_tail).trans from_a
      rw [strapVolume_skip (rises q List.mem_cons_self) q_le]
      exact ih tail_rising ha hb

theorem strapVolume_high (rising : (a :: rest).Pairwise (fun a b => a.h < b.h))
    (h : ((a :: rest).getLast (List.cons_ne_nil a rest)).h ≤ l) :
    strapVolume (a :: rest) l = ((a :: rest).getLast (List.cons_ne_nil a rest)).v := by
  induction rest generalizing a with
  | nil => rfl
  | cons b rest ih =>
    obtain ⟨rises, tail_rising⟩ := List.pairwise_cons.mp rising
    rw [List.getLast_cons_cons] at h ⊢
    have b_le : b.h ≤ l := (head_le_of_mem tail_rising (List.getLast_mem _)).trans h
    rw [strapVolume_skip (rises b List.mem_cons_self) b_le]
    exact ih tail_rising h

/-! ## Bounds (R136, R137) -/

theorem strapVolume_bounds (rising : (a :: rest).Pairwise (fun a b => a.h < b.h))
    (growing : (a :: rest).Pairwise (fun a b => a.v ≤ b.v)) (l : Nat) :
    a.v ≤ strapVolume (a :: rest) l
      ∧ strapVolume (a :: rest) l ≤ ((a :: rest).getLast (List.cons_ne_nil a rest)).v := by
  induction rest generalizing a with
  | nil => exact ⟨le_rfl, le_rfl⟩
  | cons b rest ih =>
    obtain ⟨rises, tail_rising⟩ := List.pairwise_cons.mp rising
    obtain ⟨grows, tail_growing⟩ := List.pairwise_cons.mp growing
    obtain ⟨tail_ge, tail_le⟩ := ih tail_rising tail_growing
    have a_le_b : a.v ≤ b.v := grows b List.mem_cons_self
    rw [List.getLast_cons_cons]
    rcases le_or_gt b.h l with above | below
    · rw [strapVolume_skip (rises b List.mem_cons_self) above]
      exact ⟨a_le_b.trans tail_ge, tail_le⟩
    · have b_le_last := tail_ge.trans tail_le
      rcases le_or_gt l a.h with low | high
      · rw [strapVolume_low low]
        exact ⟨le_rfl, a_le_b.trans b_le_last⟩
      · rw [strapVolume_line (rises b List.mem_cons_self) high.le below]
        exact ⟨le_lineVolume a b l, (lineVolume_le a_le_b high.le below).trans b_le_last⟩

theorem fill_le {v last : Nat} (h : v ≤ last) : v * 1000 / last ≤ 1000 :=
  Nat.div_le_of_le_mul (Nat.mul_le_mul_right 1000 h)

/-! ## The last strap point -/

theorem getD_last (a : StrapPoint) (rest : List StrapPoint) :
    (a :: rest).getD ((a :: rest).length - 1) ⟨0, 0⟩ = (a :: rest).getLast (List.cons_ne_nil a rest) := by
  rw [List.getD_eq_getElem?_getD, ← List.getLast?_eq_getElem?, List.getLast?_eq_some_getLast, Option.getD_some]

theorem lastVolume_cons (a : StrapPoint) (rest : List StrapPoint) :
    lastVolume (a :: rest) = ((a :: rest).getLast (List.cons_ne_nil a rest)).v := by
  rw [lastVolume, List.getLast?_eq_some_getLast, Option.getD_some]

/-- Settles O43: by the segment of the level, with the bounds from the volumes that never decrease. -/
theorem volumeFollowsTheStrapPoints : Obligations.VolumeFollowsTheStrapPoints := by
  unfold Obligations.VolumeFollowsTheStrapPoints
  intro pts l two rising
  obtain ⟨a, rest, rfl⟩ := List.exists_cons_of_length_pos (Nat.zero_lt_of_lt two)
  dsimp only
  rw [getD_last, lastVolume_cons]
  refine ⟨strapVolume_low, strapVolume_high rising,
    fun _ _ _ ha hb from_a below_b _ => strapVolume_between rising ha hb from_a below_b, fun growing => ?bounds⟩
  obtain ⟨first_le, le_last⟩ := strapVolume_bounds rising growing l
  refine ⟨first_le, le_last, rfl, fun filled => ⟨fill_le le_last, fun high => ?full⟩⟩
  rw [strapVolume_high rising high, Nat.mul_div_cancel_left 1000 filled]

end Sys2Proof.Proofs.StrapVolume

/-! PROOF. The level report and the status broadcast: the bytes of their frames as bits, what their timers' expiries place
and the loads of the timers (R142, R143, R171, R172, R182). -/

namespace Sys2Proof.Proofs.PeriodicFrames

open Sys2Proof.Machine Sys2Proof.Safety Sys2Proof.Laws.Terms

/-! ## Fields packed into a byte or word (R182) -/

theorem toNat_append_eq_add {m n : Nat} (x : BitVec m) (y : BitVec n) :
    (x ++ y).toNat = 2 ^ n * x.toNat + y.toNat := by
  rw [BitVec.toNat_append, ← Nat.shiftLeft_add_eq_or_of_lt y.isLt, Nat.shiftLeft_eq, Nat.mul_comm]

theorem compWord_eq (p : Nat) (validity band : BitVec 2) :
    BitVec.ofNat 16 (p % 1024 + 1024 * validity.toNat + 4096 * band.toNat)
      = 0#2 ++ band ++ validity ++ BitVec.ofNat 10 p := by
  apply BitVec.eq_of_toNat_eq
  simp only [toNat_append_eq_add, BitVec.toNat_ofNat]
  omega

theorem pageA_states (app phase : BitVec 3) (origin : BitVec 2) :
    BitVec.ofNat 8 (app.toNat + 8 * phase.toNat + 64 * origin.toNat) = origin ++ phase ++ app := by
  apply BitVec.eq_of_toNat_eq
  simp only [toNat_append_eq_add, BitVec.toNat_ofNat]
  omega

theorem pageA_cause (cause : BitVec 5) (lamp : BitVec 2) (shift : BitVec 1) :
    BitVec.ofNat 8 (cause.toNat + 32 * lamp.toNat + 128 * shift.toNat) = shift ++ lamp ++ cause := by
  apply BitVec.eq_of_toNat_eq
  simp only [toNat_append_eq_add, BitVec.toNat_ofNat]
  omega

theorem pageA_word (e : Nat) (clutch park mainFb auxFb : BitVec 1) :
    BitVec.ofNat 16 (e % 1024 + 1024 * clutch.toNat + 2048 * park.toNat + 4096 * mainFb.toNat + 8192 * auxFb.toNat)
      = 0#2 ++ auxFb ++ mainFb ++ park ++ clutch ++ BitVec.ofNat 10 e := by
  apply BitVec.eq_of_toNat_eq
  simp only [toNat_append_eq_add, BitVec.toNat_ofNat]
  omega

theorem pageB_states (chassis body origin : BitVec 2) (marker storing : BitVec 1) :
    BitVec.ofNat 8 (chassis.toNat + 4 * body.toNat + 16 * origin.toNat + 64 * marker.toNat + 128 * storing.toNat)
      = storing ++ marker ++ origin ++ body ++ chassis := by
  apply BitVec.eq_of_toNat_eq
  simp only [toNat_append_eq_add, BitVec.toNat_ofNat]
  omega

/-! ## The codes as bits (R182) -/

theorem bit_eq (b : Bool) : bit b = (oneBit b).toNat := by
  cases b <;> rfl

theorem portCode_eq (st : PortSt) : st.code = (portBits st).toNat := by
  cases st <;> rfl

theorem disCauseCode_eq (cause : Option DisCause) : disCauseCode cause = (disengageBits cause).toNat := by
  rcases cause with _ | _ | cause
  · rfl
  · rfl
  · cases cause <;> rfl

/-! ## The bytes of the frames (R182) -/

theorem be16_word (x : CompRec) : be16 x.word = wordBits x := by
  rw [be16_ofNat, wordBits, ← compWord_eq, CompRec.word]
  congr 4
  · cases x.validity <;> rfl
  · cases x.band <;> rfl

theorem pageBody_eq (p : Page) (s : State) : s.pageBody p = pageBits p s := by
  cases p with
  | a =>
    simp only [State.pageBody, pageBits, be16_ofNat, BitVec.ofNat_toNat, BitVec.setWidth_eq, bit_eq, disCauseCode_eq,
      ← pageA_states, ← pageA_cause, ← pageA_word]
    congr
    · cases s.ctl.app <;> rfl
    · cases s.ctl.phase <;> rfl
    · rcases s.ctl.origin with _ | origin
      · rfl
      · cases origin <;> rfl
    · cases s.ctl.lamp <;> rfl
  | b =>
    simp only [State.pageBody, pageBits, be16_toNat, bit_eq, portCode_eq, ← pageB_states]
    congr
    cases s.tables.origin <;> rfl

/-! ## Generated frames (R36, R37) -/

theorem refusesFrames_iff (r : PortRec) :
    r.refusesFrames = true ↔
      r.st = .quiescing ∨ r.st = .stopped ∨ (r.st = .busFault ∧ r.quiescePending = true) := by
  unfold PortRec.refusesFrames
  cases r.st <;> simp

theorem attempting_iff (r : PortRec) (src : Source) :
    r.attempting src = true ↔ r.attempt.map (·.source) = some src := by
  unfold PortRec.attempting
  cases r.attempt <;> simp

theorem generate_eq_generated (r : PortRec) (src : Source) (f : Frame) (pl : Place) :
    pl.generate r.refusesFrames (r.attempting src) (newLocal f) = generated r src f pl := by
  simp only [Place.generate, generated, newLocal, refusesFrames_iff, attempting_iff]

theorem placeLevel_eq (f : Frame) (s : State) : placeLevel f s =
    { s with places := { s.places with level := generated s.body .level f s.places.level } } := by
  rw [← generate_eq_generated]
  rfl

theorem placeStatus_eq (f : Frame) (s : State) : placeStatus f s =
    { s with places := { s.places with status := generated s.body .status f s.places.status } } := by
  rw [← generate_eq_generated]
  rfl

/-! ## The reports with their timers (R142, R143, R171) -/

theorem levelFrame_eq (s : State) :
    s.levelFrame = ⟨.extended, .data, 0x0C5AA1D0 + s.straps.node.setWidth 29, 8,
      wordBits s.tank.comps[0] ++ wordBits s.tank.comps[1] ++ wordBits s.tank.comps[2] ++ wordBits s.tank.comps[3]⟩ := by
  simp only [State.levelFrame, be16_word]

theorem levelReport_eq (s : State) :
    levelReport s = { s with
      tank := { s.tank with report := periodLoad s.tables.active.header.levelPeriod }
      places := { s.places with level := generated s.body .level s.levelFrame s.places.level } } := by
  rw [levelReport, placeLevel_eq]
  rfl

theorem statusFrame_eq (s : State) (p : Page) :
    s.statusFrame p = ⟨.extended, .data, 0x0C5AA1C0 + s.straps.node.setWidth 29, 8,
      (if p = .a then 0 else 1) :: pageBits p s ++ [0]⟩ := by
  rw [State.statusFrame, pageBody_eq]
  cases p <;> rfl

theorem other_eq (p : Page) : p.other = if p = .a then .b else .a := by
  cases p <;> rfl

/-- Settles O44: each expiry places its frame and loads its timer. -/
theorem periodicFramesCarryTheState : Obligations.PeriodicFramesCarryTheState := by
  unfold Obligations.PeriodicFramesCarryTheState
  refine ⟨fun s expired => ?level, fun s expired => ?status⟩
  case level =>
    have fires : exec .reportTimerExpiry s = .next (levelReport s) := congrArg Host.Outcome.next (if_pos expired)
    rw [fires, levelReport_eq, levelFrame_eq]
  case status =>
    have fires : exec .statusTimerExpiry s = .next
        (loadStatusTimer { placeStatus (s.statusFrame s.engine.nextPage) s with
          engine := { s.engine with nextPage := s.engine.nextPage.other } }) :=
      congrArg Host.Outcome.next (if_pos expired)
    rw [fires, placeStatus_eq, statusFrame_eq, other_eq]
    rfl

end Sys2Proof.Proofs.PeriodicFrames

/-! PROOF. What one command can do: the operation of each event with the condition under which it occurs, and so what one step
can do (00 section 1.4; notes/assumptions/1.md, 2.md, 3.md). -/

namespace Sys2Proof.Proofs.Events

open Sys2Proof.Machine

/-- The state that a command leaves. -/
def after (c : Instr) (s : State) : State :=
  match exec c s with
  | .next t => t
  | .fault _ => s
  | .refused _ => s

/-- No command stops the part. -/
theorem exec_eq_next (c : Instr) (s : State) : exec c s = .next (after c s) := by
  cases c <;> rfl

/-- What a command does to a state: one operation of the model, with the condition under which its event occurs, or nothing.
The management requests are arrivals at the Body Port. -/
inductive Event (c : Instr) (s : State) : State → Prop
  | nothing : Event c s s
  | reset (x : Straps) (h : c = .powerReset x ∨ c = .pinReset x) : Event c s (hardReset x s)
  | restart (r : RestartPending) (h : c = .restartCountdownExpiry) (pending : s.engine.restart = some r) :
      Event c s (softReset s)
  | arrival (p : Port) (f : Frame) : Event c s (arrive p f s)
  | move (q : QueueId) : Event c s (s.setQueue q (s.queue q).move)
  | start (p : Port) : Event c s (startAttempt p s)
  | success (p : Port) (h : c = .attemptSuccess p) : Event c s (endInSuccess p s)
  | failure (p : Port) : Event c s (endInFailure p s)
  | loss (p : Port) : Event c s (endInLoss p s)
  | recovery (p : Port) (down : (s.port p).st = .busFault) : Event c s (recover p s)
  | pin (i : InputId) (low : Bool) :
      Event c s (s.setCtl (s.ctl.setInput i ({ s.ctl.input i with pinLow := low }.settle)))
  | input (i : InputId) :
      Event c s (onInput i (s.setCtl (s.ctl.setInput i ⟨(s.ctl.input i).pinLow, (s.ctl.input i).pinLow, none⟩)))
  | freshness (i : Fin 32) : Event c s (freshnessEvent i s)
  | hold (i : Fin 32) (expired : s.slots[i].hold = .running 0) : Event c s (holdEvent i s)
  | phaseTimer : Event c s (onPhaseTimer s)
  | creep (expired : s.ctl.creep = some 0) : Event c s (disengageFor .creepDetected none s)
  | ceiling : Event c s (evaluateCeiling { s with ceil := { s.ceil with timer := 100 } })
  | reassertion (emits : s.ceil.content ≠ .notEmitting) : Event c s (emitLockout s)
  | evaluation (k : Fin 4) : Event c s (evaluateComp k (s.setComp k { s.tank.comps[k] with evalTimer := some 100 }))
  | senderHold (k : Fin 4) : Event c s (levelReport (becomeUnknown k s))
  | report : Event c s (levelReport s)
  | status :
      Event c s (loadStatusTimer { placeStatus (s.statusFrame s.engine.nextPage) s with
        engine := { s.engine with nextPage := s.engine.nextPage.other } })
  | flash (expired : s.ctl.flash = some 0) :
      Event c s (s.setCtl { s.ctl with lampHigh := !s.ctl.lampHigh, flash := some 500 })
  | validated (v : Service) (h : s.engine.inService = some v) (stage : v.stage = .validating) :
      Event c s (completeValidation v s)
  | stored (v : Service) (equal : Bool) (h : s.engine.inService = some v) (stage : v.stage = .storing) :
      Event c s (completeStore v equal s)
  | loaded (loading : s.tables.origin = .loading) : Event c s (completeLoad s)
  | tick (h : c = .frameClockTick) : Event c s (tick s)

/-- An event that occurs only under a condition. -/
theorem Event.guarded {c : Instr} {s t : State} {p : Prop} [Decidable p] (h : p → Event c s t) :
    Event c s (if p then t else s) := by
  split
  · exact h ‹_›
  · exact .nothing

theorem serviceAt_some {g : Engine} {stage : ServiceStage} {v : Service} (h : g.serviceAt stage = some v) :
    g.inService = some v ∧ v.stage = stage := by
  unfold Engine.serviceAt at h
  split at h
  · split at h
    · cases h; exact ⟨‹_›, ‹_›⟩
    · cases h
  · cases h

theorem event_after (c : Instr) (s : State) : Event c s (after c s) := by
  cases c with
  | powerReset x => exact .reset x (.inl rfl)
  | pinReset x => exact .reset x (.inr rfl)
  | frameArrival p f => exact .arrival p _
  | queueMove q => exact .move q
  | attemptStart p => exact .start p
  | attemptSuccess p => exact .success p rfl
  | attemptFailure p => exact .failure p
  | arbitrationLoss p => exact .loss p
  | recoveryTimerExpiry p => exact Event.guarded fun h => .recovery p h.1
  | discretePinChange i low => exact .pin i low
  | debouncedInputChange i => exact Event.guarded fun _ => .input i
  | freshnessExpiry i => exact Event.guarded fun _ => .freshness i
  | holdExpiry i => exact Event.guarded fun h => .hold i h
  | phaseTimerExpiry => exact Event.guarded fun _ => .phaseTimer
  | creepDetected => exact Event.guarded fun h => .creep h
  | ceilingTimerExpiry => exact Event.guarded fun _ => .ceiling
  | reassertionTimerExpiry => exact Event.guarded fun h => .reassertion h.2
  | evaluationTimerExpiry k => exact Event.guarded fun _ => .evaluation k
  | holdCountdownExpiry k => exact Event.guarded fun _ => .senderHold k
  | reportTimerExpiry => exact Event.guarded fun _ => .report
  | statusTimerExpiry => exact Event.guarded fun _ => .status
  | lampFlashToggle => exact Event.guarded fun h => .flash h
  | validationCompletion =>
    simp only [after, exec, execValidationCompletion]
    split
    · obtain ⟨h, stage⟩ := serviceAt_some ‹_›
      exact .validated _ h stage
    · exact .nothing
  | storeEnd equal =>
    simp only [after, exec, execStoreEnd]
    split
    · obtain ⟨h, stage⟩ := serviceAt_some ‹_›
      exact .stored _ equal h stage
    · exact .nothing
  | powerUpLoadCompletion => exact Event.guarded fun h => .loaded h
  | restartCountdownExpiry =>
    simp only [after, exec, execRestartCountdownExpiry]
    split
    · exact Event.guarded fun _ => .restart _ rfl ‹_›
    · exact .nothing
  | frameClockTick => exact .tick rfl
  | queryStatus | readSignal | readCompartment | readTable | writeTable | copyActiveToShadow | activate | probe | quiesce
  | cut | resume | readCounter | clearCounters | readFault | clearFault | clearFlags | restart | badRequest =>
    exact .arrival .body _

/-- What a command that answers a next state has done. -/
theorem exec_event {c : Instr} {s t : State} (h : exec c s = .next t) : Event c s t := by
  rw [exec_eq_next] at h
  cases h
  exact event_after c s

/-- A property that the command queue has no part in, and that every event keeps, is kept by every step. -/
theorem step_keeps {P : State → Prop} (pending : ∀ s l, P s → P { s with pending := l })
    (event : ∀ c s t, Event c s t → P s → P t) {s t : State} (h : P s) (e : step s = .next t) : P t := by
  unfold step at e
  split at e
  · cases e
    exact h
  · exact event _ _ _ (exec_event e) (pending s _ h)

/-- Settles O1: an empty queue idles, and a command at its front is executed with the queue's rest. -/
theorem stepRunsTheFrontCommand : Obligations.StepRunsTheFrontCommand := by
  unfold Obligations.StepRunsTheFrontCommand
  refine ⟨fun _ _ _ => rfl, fun c s => ⟨after c s, exec_eq_next c s⟩, fun s h => ?_⟩
  unfold step
  rw [h]

end Sys2Proof.Proofs.Events

/-! PROOF. The ends of an attempt by the source of its frame (R31 to R35, R37). -/

namespace Sys2Proof.Proofs.Attempts

open Sys2Proof.Machine

variable {s : State} {p : Port} {a : Attempt}

/-- The port's record as a success leaves it, before its counter counts (R33, R40). -/
def succeeded (p : Port) (s : State) : State := s.setPort p { s.port p with attempt := none, run := 0 }

/-- The port's record as a failure leaves it (R34, R40). -/
def failed (p : Port) (s : State) : State :=
  s.setPort p { s.port p with
    attempt := none, run := (s.port p).run + 1, failedAttempts := (s.port p).failedAttempts + 1 }

theorem endInSuccess_idle (h : (s.port p).attempt = none) : endInSuccess p s = s := by
  unfold endInSuccess
  dsimp only
  rw [h]

theorem endInSuccess_output (h : (s.port p).attempt = some a) (src : a.source = .output) :
    endInSuccess p s = recordSuccess p (succeeded p s) := by
  unfold endInSuccess succeeded
  dsimp only
  rw [h]
  dsimp only
  rw [src]

theorem endInSuccess_local (h : (s.port p).attempt = some a) (src : a.source ≠ .output) :
    endInSuccess p s = localSuccess p a.source (succeeded p s) := by
  unfold endInSuccess succeeded
  dsimp only
  rw [h]
  dsimp only
  split
  · exact absurd ‹_› src
  · rfl

theorem endInFailure_idle (h : (s.port p).attempt = none) : endInFailure p s = s := by
  unfold endInFailure
  dsimp only
  rw [h]

theorem endInFailure_output (h : (s.port p).attempt = some a) (src : a.source = .output) :
    endInFailure p s = settleDrained p (checkBusFault p (recordFailure p (failed p s))) := by
  unfold endInFailure failed
  dsimp only
  rw [h]
  dsimp only
  rw [src]
  rfl

theorem endInFailure_local (h : (s.port p).attempt = some a) (src : a.source ≠ .output) :
    endInFailure p s =
      serveIfFreed a.source (settleDrained p (checkBusFault p (localFailure p a.source (failed p s)))) := by
  unfold endInFailure failed
  dsimp only
  rw [h]
  dsimp only
  split
  · exact absurd ‹_› src
  · rfl

theorem endInLoss_idle (h : (s.port p).attempt = none) : endInLoss p s = s := by
  unfold endInLoss
  dsimp only
  rw [h]

theorem endInLoss_attempt (h : (s.port p).attempt = some a) :
    endInLoss p s = { s.setPort p { s.port p with attempt := none } with
      places := s.places.endAttempt a.source (s.port p).refusesFrames } := by
  unfold endInLoss
  dsimp only
  rw [h]
  dsimp only
  rw [State.setPort_places]

/-- What an attempt's end does, by whether an attempt is in progress and of what source. -/
theorem attempt_cases (s : State) (p : Port) :
    (s.port p).attempt = none ∨ (∃ a, (s.port p).attempt = some a ∧ a.source = .output)
      ∨ ∃ a, (s.port p).attempt = some a ∧ a.source ≠ .output := by
  cases h : (s.port p).attempt with
  | none => exact .inl rfl
  | some a =>
    by_cases src : a.source = .output
    · exact .inr (.inl ⟨a, rfl, src⟩)
    · exact .inr (.inr ⟨a, rfl, src⟩)

/-! ## The local places at an attempt's end (R33, R34, R37) -/

/-- The frame at a source has gone out: counted, and its place left to a waiting replacement (R33, R37). -/
def sent (p : Port) (src : Source) (s : State) : State :=
  { s.setPort p { s.port p with localTransmitted := (s.port p).localTransmitted + 1 } with
    places := (s.places.setAt src none).endAttempt src (s.port p).refusesFrames }

/-- The frame at a source was generated before the entry into phase A (R86). -/
def staleAt (src : Source) (s : State) : Bool :=
  match s.places.at src with
  | some f => f.stale
  | none => false

/-- The frame at a source has failed once more (R34, R37). -/
def retried (p : Port) (src : Source) (f : LocalFrame) (s : State) : State :=
  { s with
    places := (s.places.setAt src (some { f with attempts := f.attempts + 1 })).endAttempt src (s.port p).refusesFrames }

/-- The frame at a source is abandoned (R34, R37). -/
def abandoned (p : Port) (src : Source) (s : State) : State :=
  { s.setPort p { s.port p with localAbandoned := (s.port p).localAbandoned + 1 } with
    places := (s.places.setAt src none).endAttempt src (s.port p).refusesFrames }

theorem localSuccess_eq (p : Port) (src : Source) (s : State) :
    localSuccess p src s = tellSuccess src (staleAt src s) (settleDrained p (sent p src s)) := by
  unfold localSuccess sent
  dsimp only
  rw [State.setPort_places]
  rfl

theorem localFailure_absent {src : Source} (h : s.places.at src = none) : localFailure p src s = s := by
  unfold localFailure
  rw [h]

theorem localFailure_retried {src : Source} {f : LocalFrame} (h : s.places.at src = some f) (few : f.attempts + 1 < 8) :
    localFailure p src s = retried p src f s := by
  unfold localFailure
  rw [h]
  exact if_pos few

theorem localFailure_abandoned {src : Source} {f : LocalFrame} (h : s.places.at src = some f) (many : ¬f.attempts + 1 < 8) :
    localFailure p src s = report .transmitAbandoned (some (src.index p)) (abandoned p src s) := by
  unfold localFailure abandoned
  rw [h]
  dsimp only
  rw [if_neg many, State.setPort_places]

theorem recordFailure_retried {r : FrameRecord} (h : (s.queue (queueToward p)).out = some r) (few : r.attempts + 1 < 8) :
    recordFailure p s = s.setQueue (queueToward p)
      { s.queue (queueToward p) with out := some { r with attempts := r.attempts + 1 } } := by
  unfold recordFailure
  dsimp only
  rw [h]
  exact if_pos few

theorem recordFailure_abandoned {r : FrameRecord} (h : (s.queue (queueToward p)).out = some r)
    (many : ¬r.attempts + 1 < 8) :
    recordFailure p s = report .transmitAbandoned (some (queueIndex (queueToward p)))
      (s.setQueue (queueToward p) { s.queue (queueToward p) with
        out := none, abandoned := (s.queue (queueToward p)).abandoned + 1 }) := by
  unfold recordFailure
  dsimp only
  rw [h]
  exact if_neg many

theorem checkBusFault_up (up : ¬(32 ≤ (s.port p).run ∧ (s.port p).st ≠ .busFault)) : checkBusFault p s = s := if_neg up

theorem checkBusFault_down (down : 32 ≤ (s.port p).run ∧ (s.port p).st ≠ .busFault) :
    checkBusFault p s = report .portBusFault (some (portIndex p)) (s.setPort p { s.port p with
      st := .busFault, recovery := some 1000, ret := (s.port p).st
      quiescePending := decide ((s.port p).st ≠ .active), busFaults := (s.port p).busFaults + 1 }) := if_pos down

end Sys2Proof.Proofs.Attempts

/-! PROOF. The frame of the traffic: whatever ports, queues, local places and the service of requests do in an event, they change
nothing of the signals, the drive, the tanks and the bank in force. -/

namespace Sys2Proof.Proofs.Traffic

open Sys2Proof.Machine Sys2Proof.Proofs.Attempts

/-- From s to t only the ports, the queues, the local places, the Management Engine, the Shadow bank, the hit counts and the
fault record may have changed. -/
structure OnlyTraffic (s t : State) : Prop where
  pending : t.pending = s.pending
  straps : t.straps = s.straps
  slots : t.slots = s.slots
  clock : t.clock = s.clock
  ctl : t.ctl = s.ctl
  ceil : t.ceil = s.ceil
  tank : t.tank = s.tank
  bank : t.tables.active = s.tables.active
  store : t.tables.store = s.tables.store
  origin : t.tables.origin = s.tables.origin
  marker : t.tables.marker = s.tables.marker
  storing : t.tables.storing = s.tables.storing
  freeNext : t.freeNext = s.freeNext

namespace OnlyTraffic

theorem refl (s : State) : OnlyTraffic s s := by constructor <;> rfl

theorem trans {s t u : State} (h : OnlyTraffic s t) (g : OnlyTraffic t u) : OnlyTraffic s u :=
  ⟨g.pending.trans h.pending, g.straps.trans h.straps, g.slots.trans h.slots, g.clock.trans h.clock, g.ctl.trans h.ctl,
   g.ceil.trans h.ceil, g.tank.trans h.tank, g.bank.trans h.bank, g.store.trans h.store, g.origin.trans h.origin,
   g.marker.trans h.marker, g.storing.trans h.storing, g.freeNext.trans h.freeNext⟩

/-- Either branch of a test keeps the frame. -/
theorem ite {s t u : State} {c : Prop} [Decidable c] (h : OnlyTraffic s t) (g : OnlyTraffic s u) :
    OnlyTraffic s (if c then t else u) := by
  split
  · exact h
  · exact g

end OnlyTraffic

variable (s : State)

/-! ## Ports, queues and places (chapter 2) -/

theorem setPort_onlyTraffic (p : Port) (r : PortRec) : OnlyTraffic s (s.setPort p r) := by cases p <;> constructor <;> rfl

theorem setQueue_onlyTraffic (q : QueueId) (u : Queue) : OnlyTraffic s (s.setQueue q u) := by cases q <;> constructor <;> rfl

theorem setPlaces_onlyTraffic (pl : Places) : OnlyTraffic s { s with places := pl } := by constructor <;> rfl

theorem setEngine_onlyTraffic (g : Engine) : OnlyTraffic s { s with engine := g } := by constructor <;> rfl

theorem setShadow_onlyTraffic (b : Bank) : OnlyTraffic s { s with tables := { s.tables with shadow := b } } := by
  constructor <;> rfl

theorem setHits_onlyTraffic (n : Vector Nat 48) : OnlyTraffic s { s with tables := { s.tables with hits := n } } := by
  constructor <;> rfl

theorem setFaults_onlyTraffic (u : FaultUnit) : OnlyTraffic s { s with faults := u } := by constructor <;> rfl

theorem report_onlyTraffic (c : Cause) (i : Option Nat) : OnlyTraffic s (report c i s) := setFaults_onlyTraffic s _

theorem settleDrained_onlyTraffic (p : Port) : OnlyTraffic s (settleDrained p s) :=
  .ite (setPort_onlyTraffic s p _) (.refl s)

theorem offer_onlyTraffic (q : QueueId) (r : FrameRecord) : OnlyTraffic s (offer q r s) :=
  .ite (setQueue_onlyTraffic s q _) (.ite (setQueue_onlyTraffic s q _)
    (.ite ((setQueue_onlyTraffic s q _).trans (report_onlyTraffic _ _ _)) (setQueue_onlyTraffic s q _)))

theorem recordSuccess_onlyTraffic (p : Port) : OnlyTraffic s (recordSuccess p s) :=
  (setPort_onlyTraffic s p _).trans ((setQueue_onlyTraffic _ _ _).trans (settleDrained_onlyTraffic _ p))

theorem recordFailure_onlyTraffic (p : Port) : OnlyTraffic s (recordFailure p s) := by
  unfold recordFailure
  dsimp only
  split
  · exact .refl s
  · exact .ite (setQueue_onlyTraffic s _ _) ((setQueue_onlyTraffic s _ _).trans (report_onlyTraffic _ _ _))

theorem localFailure_onlyTraffic (p : Port) (src : Source) : OnlyTraffic s (localFailure p src s) := by
  unfold localFailure
  split
  · exact .refl s
  · exact .ite (setPlaces_onlyTraffic s _)
      ((setPort_onlyTraffic s p _).trans ((setPlaces_onlyTraffic _ _).trans (report_onlyTraffic _ _ _)))

theorem checkBusFault_onlyTraffic (p : Port) : OnlyTraffic s (checkBusFault p s) :=
  .ite ((setPort_onlyTraffic s p _).trans (report_onlyTraffic _ _ _)) (.refl s)

theorem endInLoss_onlyTraffic (p : Port) : OnlyTraffic s (endInLoss p s) := by
  unfold endInLoss
  dsimp only
  split
  · exact .refl s
  · exact (setPort_onlyTraffic s p _).trans (setPlaces_onlyTraffic _ _)

theorem recover_onlyTraffic (p : Port) : OnlyTraffic s (recover p s) :=
  (setPort_onlyTraffic s p _).trans (settleDrained_onlyTraffic _ p)

/-! ## The service of requests (chapters 7, 8 and 9) -/

theorem serveWriteTable_onlyTraffic (d : List Byte) : OnlyTraffic s (serveWriteTable d s).1 := by
  unfold serveWriteTable
  dsimp only
  split
  · exact .refl s
  · split
    · exact .refl s
    · exact setShadow_onlyTraffic s _

theorem serveClearCounters_onlyTraffic (d : List Byte) : OnlyTraffic s (serveClearCounters d s).1 := by
  unfold serveClearCounters
  split
  · exact setPort_onlyTraffic s .chassis _
  · exact setPort_onlyTraffic s .body _
  · exact setQueue_onlyTraffic s .bc _
  · exact setQueue_onlyTraffic s .cb _
  · exact setHits_onlyTraffic s _
  · exact setEngine_onlyTraffic s _
  · exact .refl s

theorem serveQuiesce_onlyTraffic (p : Port) : OnlyTraffic s (serveQuiesce p s).1 := by
  unfold serveQuiesce
  dsimp only
  split
  · exact .refl s
  · split
    · exact (setPort_onlyTraffic s p _).trans (settleDrained_onlyTraffic _ p)
    · exact .refl s
    · exact .refl s
    · exact setPort_onlyTraffic s p _

theorem cutPort_onlyTraffic (p : Port) : OnlyTraffic s (cutPort p s) :=
  (setPort_onlyTraffic s p _).trans ((setQueue_onlyTraffic _ _ _).trans (setPlaces_onlyTraffic _ _))

theorem serveCut_onlyTraffic (p : Port) : OnlyTraffic s (serveCut p s).1 := by
  unfold serveCut
  split
  · exact .refl s
  · exact cutPort_onlyTraffic s p

theorem serveResume_onlyTraffic (p : Port) : OnlyTraffic s (serveResume p s).1 := by
  unfold serveResume
  dsimp only
  split
  · exact .refl s
  · exact setPort_onlyTraffic s p _
  · exact setPort_onlyTraffic s p _
  · exact .refl s

theorem servePortControl_onlyTraffic (d : List Byte) : OnlyTraffic s (servePortControl d s).1 := by
  unfold servePortControl
  split
  · exact .refl s
  · split
    · exact serveQuiesce_onlyTraffic s _
    · exact serveCut_onlyTraffic s _
    · exact serveResume_onlyTraffic s _
    · exact .refl s

theorem serveRestart_onlyTraffic (place : RespPlace) : OnlyTraffic s (serveRestart place s).1 := by
  unfold serveRestart
  split
  all_goals exact setEngine_onlyTraffic s _

theorem serveActivate_onlyTraffic (f : Frame) (place : RespPlace) : OnlyTraffic s (serveActivate f place s).1 := by
  unfold serveActivate
  split
  · exact .refl s
  · split
    · exact setEngine_onlyTraffic s _
    · exact report_onlyTraffic s _ _

theorem serveKind_onlyTraffic (f : Frame) (place : RespPlace) : OnlyTraffic s (serveKind f place s).1 := by
  unfold serveKind
  dsimp only
  split
  case h_5 => exact serveWriteTable_onlyTraffic s _
  case h_6 => exact setShadow_onlyTraffic s _
  case h_7 => exact serveActivate_onlyTraffic s f place
  case h_9 => exact servePortControl_onlyTraffic s _
  case h_11 => exact serveClearCounters_onlyTraffic s _
  case h_13 => exact setFaults_onlyTraffic s _
  case h_14 => exact setFaults_onlyTraffic s _
  case h_15 => exact serveRestart_onlyTraffic s place
  all_goals exact .refl s

theorem respond_onlyTraffic (f : Frame) (place : RespPlace) (r : Reply) : OnlyTraffic s (respond f place r s) :=
  setPlaces_onlyTraffic s _

theorem serveRequest_onlyTraffic (f : Frame) (place : RespPlace) : OnlyTraffic s (serveRequest f place s) := by
  have kind := serveKind_onlyTraffic s f place
  unfold serveRequest
  refine .ite (respond_onlyTraffic s _ _ _) ?_
  split
  · rename_i e
    rw [e] at kind
    exact kind.trans (respond_onlyTraffic _ _ _ _)
  · rename_i e
    rwa [e] at kind

theorem serveNext_onlyTraffic : OnlyTraffic s (serveNext s) := by
  unfold serveNext
  split
  · exact .ite ((setEngine_onlyTraffic s _).trans (serveRequest_onlyTraffic _ _ _)) (.refl s)
  · exact .refl s

theorem serveWaiting_onlyTraffic : OnlyTraffic s (serveWaiting s) :=
  (serveNext_onlyTraffic s).trans (serveNext_onlyTraffic _)

theorem serveIfFreed_onlyTraffic (src : Source) : OnlyTraffic s (serveIfFreed src s) := by
  unfold serveIfFreed
  split
  · exact .ite (serveWaiting_onlyTraffic s) (.refl s)
  all_goals exact .refl s

theorem busyResponder_onlyTraffic (f : Frame) : OnlyTraffic s (busyResponder f s) :=
  .ite (setEngine_onlyTraffic s _) (setPlaces_onlyTraffic s _)

theorem intake_onlyTraffic (f : Frame) : OnlyTraffic s (intake f s) := by
  unfold intake
  split
  · exact (setEngine_onlyTraffic s _).trans (serveWaiting_onlyTraffic _)
  · exact busyResponder_onlyTraffic s f

theorem finishService_onlyTraffic (v : Service) (r : Reply) : OnlyTraffic s (finishService v r s) :=
  (setEngine_onlyTraffic s _).trans ((respond_onlyTraffic _ _ _ _).trans (serveWaiting_onlyTraffic _))

theorem endInFailure_onlyTraffic (p : Port) : OnlyTraffic s (endInFailure p s) := by
  have failed : OnlyTraffic s (failed p s) := setPort_onlyTraffic s p _
  rcases attempt_cases s p with h | ⟨a, h, src⟩ | ⟨a, h, src⟩
  · rw [endInFailure_idle h]
    exact .refl s
  · rw [endInFailure_output h src]
    exact failed.trans ((recordFailure_onlyTraffic _ p).trans
      ((checkBusFault_onlyTraffic _ p).trans (settleDrained_onlyTraffic _ p)))
  · rw [endInFailure_local h src]
    exact failed.trans ((localFailure_onlyTraffic _ p _).trans ((checkBusFault_onlyTraffic _ p).trans
      ((settleDrained_onlyTraffic _ p).trans (serveIfFreed_onlyTraffic _ _))))

/-! ## The tanks (chapter 6) -/

/-- An evaluation changes the tank records and reports (R130 to R138). -/
theorem evaluateStages_shape (k : Fin 4) (s : State) :
    ∃ tank faults, evaluateStages k s = { s with tank := tank, faults := faults } := by
  unfold evaluateStages
  dsimp only
  split
  · exact ⟨_, _, rfl⟩
  · split
    · unfold evaluateNoSender
      dsimp only
      split
      · split <;> exact ⟨_, _, rfl⟩
      all_goals exact ⟨_, _, rfl⟩
    · exact ⟨_, _, rfl⟩

theorem levelReport_shape (s : State) :
    ∃ tank level, levelReport s = { s with tank := tank, places := { s.places with level := level } } := ⟨_, _, rfl⟩

/-- An evaluation, with its level report, changes nothing but the tank records, the LEVEL place and the fault record. -/
theorem evaluateComp_shape (k : Fin 4) (s : State) :
    ∃ tank faults level, evaluateComp k s =
      { s with tank := tank, faults := faults, places := { s.places with level := level } } := by
  obtain ⟨tank, faults, e⟩ := evaluateStages_shape k s
  unfold evaluateComp
  dsimp only
  rw [e]
  split
  · obtain ⟨tank', level, e'⟩ := levelReport_shape { s with tank := tank, faults := faults }
    exact ⟨tank', faults, level, e'⟩
  · exact ⟨tank, faults, s.places.level, rfl⟩

end Sys2Proof.Proofs.Traffic

/-! PROOF. The resets and the time base: the whole state that a hard reset, a soft reset and a millisecond leave, and the laws in
the reset state (R50, R68, R70, R73, R107, R128, R143, R160 to R162, R171, R174, R180). -/

namespace Sys2Proof.Proofs.Resets

open Sys2Proof.Machine Sys2Proof.Safety Sys2Proof.Proofs.Attempts
  Sys2Proof.Proofs.Traffic

/-! ## Starting values -/

theorem debouncer_reset_eq (d : Debouncer) : d.reset = startInput d := by
  obtain ⟨low, active, countdown⟩ := d
  cases low <;> rfl

theorem controller_start_eq (c : Controller) (app : AppState) : c.start app = startCtl c app := by
  unfold Controller.start startCtl
  simp only [debouncer_reset_eq, State.reset]

theorem resetSlots_eq (s : State) : resetSlots s = { s with slots := startSlots s.tables.active } := rfl

theorem resetComps_eq (s : State) : resetComps s = { s with tank := { s.tank with comps := startComps s.tables.active } } :=
  rfl

theorem reportLoad_eq (h : Header) : h.reportLoad = periodLoad h.levelPeriod := rfl

theorem statusLoad_eq (app : AppState) (h : Header) :
    statusLoad app h = if app = .unloaded then some 1000 else periodLoad h.statusPeriod := rfl

/-- What every reset starts (R50, R68, R70, R73, R107, R128, R143, R162, R171). -/
theorem startBlocks_eq (app : AppState) (s : State) :
    startBlocks app s = { s with
      chassis := State.reset.chassis, body := State.reset.body, bc := State.reset.bc, cb := State.reset.cb
      places := State.reset.places
      clock := 0
      slots := startSlots s.tables.active
      ctl := startCtl s.ctl app
      ceil := State.reset.ceil
      tank := ⟨startComps s.tables.active, periodLoad s.tables.active.header.levelPeriod⟩
      tables := { s.tables with hits := Vector.replicate 48 0 }
      engine := { State.reset.engine with
        statusTimer := if app = .unloaded then some 1000 else periodLoad s.tables.active.header.statusPeriod } } := by
  unfold startBlocks
  simp only [resetSlots_eq, resetComps_eq, zeroHits, loadReportTimer, loadStatusTimer, reportLoad_eq, statusLoad_eq,
    controller_start_eq]
  rfl

/-! ## The soft reset (R174) -/

theorem restartState_eq (o : TableOrigin) :
    o.restartState = if o = .loaded ∨ o = .activated then .road else .unloaded := by
  cases o <;> simp [TableOrigin.restartState]

theorem softReset_eq (s : State) :
    softReset s = { s with
      chassis := State.reset.chassis, body := State.reset.body, bc := State.reset.bc, cb := State.reset.cb
      places := State.reset.places
      clock := 0
      slots := startSlots s.tables.active
      ctl := startCtl s.ctl s.tables.origin.restartState
      ceil := State.reset.ceil
      tank := ⟨startComps s.tables.active, periodLoad s.tables.active.header.levelPeriod⟩
      tables := { s.tables with hits := Vector.replicate 48 0, storing := false }
      engine := { State.reset.engine with
        statusTimer :=
          if s.tables.origin.restartState = .unloaded then some 1000
          else periodLoad s.tables.active.header.statusPeriod }
      faults := s.faults.take .restarted none s.tables.origin.restartState 0 } := by
  unfold softReset report
  simp only [startBlocks_eq]
  rfl

/-- The success of the response to a RESTART, or the end of its countdown, is the soft reset (R174). -/
theorem tellSuccess_restart {s : State} {r : RestartPending} (pending : s.engine.restart = some r) (stale : Bool) :
    tellSuccess (.response r.place) stale s = softReset s := by
  unfold tellSuccess
  dsimp only
  rw [pending]
  exact if_pos rfl

@[simp] theorem settleDrained_pending (p : Port) (s : State) : (settleDrained p s).pending = s.pending :=
  (settleDrained_onlyTraffic s p).pending

@[simp] theorem settleDrained_straps (p : Port) (s : State) : (settleDrained p s).straps = s.straps :=
  (settleDrained_onlyTraffic s p).straps

@[simp] theorem settleDrained_ctl (p : Port) (s : State) : (settleDrained p s).ctl = s.ctl :=
  (settleDrained_onlyTraffic s p).ctl

@[simp] theorem settleDrained_tables (p : Port) (s : State) : (settleDrained p s).tables = s.tables := by
  unfold settleDrained
  split <;> simp

@[simp] theorem settleDrained_faults (p : Port) (s : State) : (settleDrained p s).faults = s.faults := by
  unfold settleDrained
  split <;> simp

@[simp] theorem settleDrained_freeNext (p : Port) (s : State) : (settleDrained p s).freeNext = s.freeNext :=
  (settleDrained_onlyTraffic s p).freeNext

/-- The soft reset leaves nothing of the ports, the places and the engine, however they stood. -/
theorem softReset_of_same {s t : State} (pending : t.pending = s.pending) (straps : t.straps = s.straps)
    (ctl : t.ctl = s.ctl) (tables : t.tables = s.tables) (faults : t.faults = s.faults) (free : t.freeNext = s.freeNext) :
    softReset t = softReset s := by
  rw [softReset_eq, softReset_eq, pending, straps, ctl, tables, faults, free]

/-- Settles O4: at the countdown's end the soft reset itself, at the response's success after the success's own changes, of
which the soft reset leaves nothing. -/
theorem restartTakesTheSoftReset : Obligations.RestartTakesTheSoftReset := by
  unfold Obligations.RestartTakesTheSoftReset
  intro s r c pending occurs
  dsimp only
  rw [← restartState_eq, ← softReset_eq]
  rcases occurs with ⟨rfl, expired⟩ | ⟨rfl, a, attempt, src⟩
  · simp only [exec, execRestartCountdownExpiry, pending, expired, if_true]
  · have sent := endInSuccess_local (p := .body) attempt (by rw [src]; nofun)
    simp only [exec, execAttemptSuccess]
    rw [sent, src]
    unfold localSuccess
    dsimp only
    rw [tellSuccess_restart (by simpa [succeeded] using pending)]
    refine congrArg Host.Outcome.next (softReset_of_same ?_ ?_ ?_ ?_ ?_ ?_) <;> simp [succeeded]

/-! ## The hard resets (R160, R180) -/

theorem startSlots_cleared : startSlots clearedBank = State.reset.slots := by
  ext i hi
  simp [startSlots, clearedBank, clearedSlotDef, State.reset]

theorem startComps_cleared : startComps clearedBank = State.reset.tank.comps := by
  ext i hi
  simp [startComps, clearedBank, clearedComp, State.reset]

/-- IMAGE_INVALID is the first report after a hard reset (R180). -/
theorem take_imageInvalid :
    FaultUnit.take ⟨none, 0⟩ .imageInvalid none .unloaded 0
      = ⟨some ⟨.major, .imageInvalid, none, .unloaded, 0, 0⟩, 1#24 <<< 22⟩ := by
  decide

theorem hardReset_eq (x : Straps) (s : State) :
    hardReset x s = { State.reset with
      pending := s.pending
      straps := x
      ctl := startCtl s.ctl .unloaded
      tables := { State.reset.tables with
        store := s.tables.store, marker := s.tables.store.marker
        origin := if s.tables.store.marker then .loading else .cleared }
      faults :=
        if s.tables.store.marker then ⟨none, 0⟩
        else ⟨some ⟨.major, .imageInvalid, none, .unloaded, 0, 0⟩, 1#24 <<< 22⟩
      freeNext := s.freeNext } := by
  unfold hardReset
  simp only [startBlocks_eq, startSlots_cleared, startComps_cleared]
  cases s.tables.store.marker
  · simp only [Bool.false_eq_true, if_false, ← take_imageInvalid]
    rfl
  · rfl

/-- Settles O3. -/
theorem powerAndPinResetStartEveryBlock : Obligations.PowerAndPinResetStartEveryBlock := by
  unfold Obligations.PowerAndPinResetStartEveryBlock
  intro x s
  dsimp only
  rw [← hardReset_eq]
  exact ⟨rfl, rfl⟩

/-! ## One millisecond (R68) -/

theorem countDown_eq (t : Option Nat) : countDown t = t.map (· - 1) := by
  cases t <;> rfl

theorem holdCountDown_eq (h : HoldTimer) :
    h.countDown = match h with
      | .running n => .running (n - 1)
      | h => h := by
  cases h <;> rfl

/-- Settles O5: each block's tick by its countdowns. -/
theorem tickMovesClockAndCountdowns : Obligations.TickMovesClockAndCountdowns := by
  unfold Obligations.TickMovesClockAndCountdowns
  intro s
  dsimp only
  refine congrArg Host.Outcome.next ?_
  simp only [tick, PortRec.tick, Slot.tick, Controller.tick, Debouncer.tick, CeilingUnit.tick, TankUnit.tick, CompRec.tick,
    Engine.tick, countDown_eq, holdCountDown_eq] <;> rfl

/-! ## The reset state -/

theorem resetSlot_eq (i : Fin 32) : State.reset.slots[i] = ⟨none, .noData, 0, 0, none, .stopped, none⟩ := by
  simp [State.reset]

theorem reset_slotsCoherent : SlotsCoherent State.reset := by
  intro i
  rw [resetSlot_eq]
  constructor <;> simp

theorem resetQueue_coherent : QueueCoherent resetQueue := by
  constructor <;> simp [resetQueue]

theorem reset_drive : DriveCoherent State.reset := by
  constructor <;> constructor <;> decide

theorem reset_tables : TablesCoherent State.reset := by
  constructor <;> simp [State.reset]

theorem reset_port (p : Port) : PortCoherent State.reset p := by
  cases p <;> constructor <;> simp [State.reset, State.port, resetPort]

theorem reset_places : PlacesCoherent State.reset where
  lockout := nofun
  status := nofun
  level := nofun
  tried := by
    intro src f h
    cases src with
    | response p => cases p <;> cases h
    | _ => cases h

theorem reset_engine : EngineCoherent State.reset where
  eager := fun _ _ => ⟨rfl, rfl⟩
  claim := nofun

/-- Settles O2: each law read off the reset state. -/
theorem resetMeetsTheLaws : Obligations.ResetMeetsTheLaws :=
  ⟨reset_slotsCoherent, ⟨resetQueue_coherent, resetQueue_coherent⟩, reset_drive, reset_tables, nofun,
    ⟨reset_port .chassis, reset_port .body, reset_places⟩, reset_engine⟩

end Sys2Proof.Proofs.Resets

/-! PROOF. The law of the signal slots: what happens to one slot keeps it coherent, and the events of the part do to a slot only
what the Signal Tracker does (R51, R53 to R63, R70). -/

namespace Sys2Proof.Proofs.SlotLaws

open Sys2Proof.Machine Sys2Proof.Safety Sys2Proof.Proofs.Events Sys2Proof.Proofs.Attempts Sys2Proof.Proofs.Traffic
  Sys2Proof.Proofs.Resets

/-! ## One slot (R51) -/

variable {x : Slot}

theorem resetSlot_coherent (d : SlotDef) : SlotCoherent d.resetSlot := by
  constructor <;> simp [SlotDef.resetSlot]

theorem holdLoad_ne_stopped (d : SlotDef) : d.holdLoad ≠ .stopped := by
  unfold SlotDef.holdLoad
  split
  · simp
  · split <;> simp

theorem holdLoad_expired_iff (d : SlotDef) : d.holdLoad = .expired ↔ d.holdTime = 0 := by
  unfold SlotDef.holdLoad
  split
  · simp [*]
  · split <;> simp [*]

/-- A slot that enters LOST, or loses a recovery under way, holds its value for the hold time (R59, R60, R63). -/
theorem startHold_coherent (x : Slot) (d : SlotDef) :
    SlotCoherent ({ x with hc := 255, status := .lost, recovery := 0 }.startHold d) := by
  constructor <;> simp +contextual [Slot.startHold, holdLoad_ne_stopped, holdLoad_expired_iff]

theorem takeError_coherent (h : SlotCoherent x) (d : SlotDef) : SlotCoherent (x.takeError d) := by
  unfold Slot.takeError
  dsimp only
  split
  case isTrue lost =>
    have full := h.lost.mp lost
    split
    · rwa [← full]
    · have held := startHold_coherent x d
      rwa [← lost] at held
  case isFalse notLost =>
    have full := mt h.lost.mpr notLost
    have counter := h.counter
    split
    · exact startHold_coherent x d
    case isFalse below =>
      obtain ⟨-, rest⟩ := h.atRest notLost
      cases status : x.status with
      | lost => exact absurd status notLost
      | noData =>
        obtain ⟨value, stamp⟩ := h.noData status
        constructor <;> simp [statusAfterError, rest, value, stamp]
        omega
      | healthy =>
        have value := h.holds (.inl status)
        unfold statusAfterError
        dsimp only
        split <;> constructor <;> simp_all
      | suspect =>
        have value := h.holds (.inr status)
        have high := h.suspect status
        constructor <;> simp_all [statusAfterError]
        omega

theorem takeGood_coherent (h : SlotCoherent x) (d : SlotDef) (clock : Clock) (eng : Int) :
    SlotCoherent (x.takeGood d clock eng) := by
  have counter := h.counter
  unfold Slot.takeGood
  dsimp only
  split
  case isTrue lost =>
    split
    · constructor <;> simp_all
    · constructor <;> simp
  case isFalse notLost =>
    have full := mt h.lost.mpr notLost
    obtain ⟨-, rest⟩ := h.atRest notLost
    split <;> constructor <;> simp_all
    all_goals omega

theorem freshness_coherent (h : SlotCoherent x) (t : Option Nat) : SlotCoherent { x with freshness := t } :=
  { h with }

/-- A hold runs in LOST alone, and at its expiry the value is let go (R63). -/
theorem holdExpiry_coherent (h : SlotCoherent x) {left : Nat} (running : x.hold = .running left) :
    SlotCoherent { x with value := none, hold := .expired } := by
  have lost : x.status = .lost := by
    by_contra notLost
    simpa [running] using (h.atRest notLost).2
  have noRecovery : x.recovery = 0 := by
    simpa [running] using h.stopped lost
  constructor <;> simp_all [h.lost.mp lost]

theorem tick_coherent (h : SlotCoherent x) : SlotCoherent x.tick := by
  have stopped : x.hold.countDown = .stopped ↔ x.hold = .stopped := by cases x.hold <;> simp [HoldTimer.countDown]
  have expired : x.hold.countDown = .expired ↔ x.hold = .expired := by cases x.hold <;> simp [HoldTimer.countDown]
  exact { h with
    atRest := fun notLost => (h.atRest notLost).imp_right stopped.mpr
    stopped := fun lost => stopped.trans (h.stopped lost)
    expired := fun e => h.expired (expired.mp e) }

/-! ## The slots of a state -/

variable {s t : State}

theorem slotsCoherent_of_slots (h : SlotsCoherent s) (same : t.slots = s.slots) : SlotsCoherent t := by
  unfold SlotsCoherent
  rw [same]
  exact h

theorem slotsCoherent_of_onlyDrive (h : SlotsCoherent s) (drive : OnlyDrive s t) : SlotsCoherent t :=
  slotsCoherent_of_slots h drive.slots

theorem slotsCoherent_of_onlyTraffic (h : SlotsCoherent s) (traffic : OnlyTraffic s t) : SlotsCoherent t :=
  slotsCoherent_of_slots h traffic.slots

theorem setSlot_coherent (h : SlotsCoherent s) (i : Fin 32) (hx : SlotCoherent x) : SlotsCoherent (s.setSlot i x) := by
  intro j
  by_cases same : i = j
  · subst same
    rwa [State.setSlot_slots]
  · rw [State.setSlot_slots_other s i j x same]
    exact h j

theorem notifyRoles_coherent (h : SlotsCoherent s) (i : Fin 32) (v : Option Int) : SlotsCoherent (notifyRoles i v s) :=
  slotsCoherent_of_onlyDrive h (notifyRoles_onlyDrive s i v)

theorem slotError_coherent (h : SlotsCoherent s) (i : Fin 32) (reload : Bool) : SlotsCoherent (slotError i reload s) := by
  have taken := takeError_coherent (h i) s.tables.active.sdt[i]
  have put : SlotsCoherent (s.setSlot i
      (if reload then { s.slots[i].takeError s.tables.active.sdt[i] with freshness := s.tables.active.sdt[i].freshLoad }
       else s.slots[i].takeError s.tables.active.sdt[i])) := by
    split
    · exact setSlot_coherent h i (freshness_coherent taken _)
    · exact setSlot_coherent h i taken
  unfold slotError
  dsimp only
  split
  · exact slotsCoherent_of_slots put rfl
  · exact put

theorem updateEvent_coherent (h : SlotsCoherent s) (i : Fin 32) (u : Update) : SlotsCoherent (updateEvent i u s) := by
  unfold updateEvent
  split
  · exact notifyRoles_coherent (slotError_coherent h i false) i none
  · exact notifyRoles_coherent (setSlot_coherent h i (takeGood_coherent (h i) _ _ _)) i _

theorem runExtractors_coherent (xs : List Extractor) (f : Frame) (h : SlotsCoherent s) :
    SlotsCoherent (runExtractors xs f s) := by
  unfold runExtractors
  induction xs generalizing s with
  | nil => exact h
  | cons x xs ih => exact ih (updateEvent_coherent h x.slot _)

theorem classify_coherent (p : Port) (f : Frame) (h : SlotsCoherent s) : SlotsCoherent (classify p f s) := by
  have offered {t : State} (q : QueueId) (r : FrameRecord) (ht : SlotsCoherent t) : SlotsCoherent (offer q r t) :=
    slotsCoherent_of_onlyTraffic ht (offer_onlyTraffic t q r)
  unfold classify
  split
  · exact offered _ _ h
  · split
    · split
      · exact offered _ _ h
      · exact h
    · rename_i i _
      have hit : SlotsCoherent (countHit i s) := slotsCoherent_of_slots h rfl
      have extracted : SlotsCoherent (if s.tables.active.fct[i].action.extracts then
          runExtractors s.tables.active.fct[i].extractors f (countHit i s) else countHit i s) := by
        split
        · exact runExtractors_coherent _ f hit
        · exact hit
      dsimp only
      split
      · exact offered _ _ extracted
      · exact extracted

theorem arrive_coherent (p : Port) (f : Frame) (h : SlotsCoherent s) : SlotsCoherent (arrive p f s) := by
  unfold arrive
  dsimp only
  split
  · split
    · exact slotsCoherent_of_onlyTraffic h ((setPort_onlyTraffic s p _).trans (intake_onlyTraffic _ f))
    · exact classify_coherent p f (slotsCoherent_of_onlyTraffic h (setPort_onlyTraffic s p _))
  · exact h

theorem startSlots_coherent {b : Bank} (same : t.slots = startSlots b) : SlotsCoherent t := by
  intro i
  have slot : t.slots[i] = b.sdt[i].resetSlot := by rw [same]; simp [startSlots, SlotDef.resetSlot, SlotDef.freshLoad]
  rw [slot]
  exact resetSlot_coherent _

theorem softReset_coherent (s : State) : SlotsCoherent (softReset s) := by
  rw [softReset_eq]
  exact startSlots_coherent rfl

theorem hardReset_coherent (x : Straps) (s : State) : SlotsCoherent (hardReset x s) := by
  rw [hardReset_eq]
  exact slotsCoherent_of_slots reset_slotsCoherent rfl

theorem tablesTaken_coherent (s : State) : SlotsCoherent (tablesTaken s) :=
  slotsCoherent_of_slots (slotsCoherent_of_onlyDrive (s := levelReport (resetComps (resetSlots (zeroHits s))))
    (startSlots_coherent rfl) (onTablesTaken_onlyDrive _)) rfl

theorem tellSuccess_coherent (src : Source) (stale : Bool) (h : SlotsCoherent s) :
    SlotsCoherent (tellSuccess src stale s) := by
  unfold tellSuccess
  split
  · exact slotsCoherent_of_onlyDrive h (onLockoutSuccess_onlyDrive s stale)
  · split
    · split
      · exact softReset_coherent s
      · exact slotsCoherent_of_onlyTraffic h (serveWaiting_onlyTraffic s)
    · exact slotsCoherent_of_onlyTraffic h (serveWaiting_onlyTraffic s)
  all_goals exact h

theorem endInSuccess_coherent (p : Port) (h : SlotsCoherent s) : SlotsCoherent (endInSuccess p s) := by
  have sent : OnlyTraffic s (succeeded p s) := setPort_onlyTraffic s p _
  rcases attempt_cases s p with idle | ⟨a, attempt, src⟩ | ⟨a, attempt, src⟩
  · rwa [endInSuccess_idle idle]
  · rw [endInSuccess_output attempt src]
    exact slotsCoherent_of_onlyTraffic h (sent.trans (recordSuccess_onlyTraffic _ p))
  · rw [endInSuccess_local attempt src]
    exact tellSuccess_coherent _ _ (slotsCoherent_of_onlyTraffic h (sent.trans ((setPort_onlyTraffic _ p _).trans
      ((setPlaces_onlyTraffic _ _).trans (settleDrained_onlyTraffic _ p)))))

theorem startAttempt_coherent (p : Port) (h : SlotsCoherent s) : SlotsCoherent (startAttempt p s) := by
  unfold startAttempt
  split
  · exact h
  · split
    · exact h
    · dsimp only
      split
      · exact h
      · exact slotsCoherent_of_onlyTraffic (slotsCoherent_of_onlyDrive h (rewriteEffect_onlyDrive s _))
          (setPort_onlyTraffic _ p _)
    · split
      · exact h
      · exact slotsCoherent_of_onlyTraffic h (setPort_onlyTraffic s p _)

theorem evaluateComp_slots (k : Fin 4) (s : State) : (evaluateComp k s).slots = s.slots := by
  obtain ⟨tank, faults, level, e⟩ := evaluateComp_shape k s
  rw [e]

theorem finish_coherent (v : Service) (r : Reply) (h : SlotsCoherent s) : SlotsCoherent (finishService v r s) :=
  slotsCoherent_of_onlyTraffic h (finishService_onlyTraffic s v r)

theorem completeValidation_coherent (v : Service) (h : SlotsCoherent s) : SlotsCoherent (completeValidation v s) := by
  unfold completeValidation
  split
  · exact finish_coherent v _ h
  · split
    · exact finish_coherent v _ h
    · split
      · exact slotsCoherent_of_slots (tablesTaken_coherent _) rfl
      · exact finish_coherent v _ (tablesTaken_coherent _)

theorem completeStore_coherent (v : Service) (equal : Bool) (h : SlotsCoherent s) :
    SlotsCoherent (completeStore v equal s) := by
  unfold completeStore
  split <;> exact finish_coherent v _ h

theorem tick_slotsCoherent (h : SlotsCoherent s) : SlotsCoherent (tick s) := by
  intro i
  have slot : (tick s).slots[i] = s.slots[i].tick := by simp [tick]
  rw [slot]
  exact tick_coherent (h i)

theorem event_coherent {c : Instr} (e : Event c s t) (h : SlotsCoherent s) : SlotsCoherent t := by
  cases e with
  | reset x _ => exact hardReset_coherent x s
  | restart => exact softReset_coherent s
  | arrival p f => exact arrive_coherent p f h
  | move q => exact slotsCoherent_of_onlyTraffic h (setQueue_onlyTraffic s q _)
  | start p => exact startAttempt_coherent p h
  | success p _ => exact endInSuccess_coherent p h
  | failure p => exact slotsCoherent_of_onlyTraffic h (endInFailure_onlyTraffic s p)
  | loss p => exact slotsCoherent_of_onlyTraffic h (endInLoss_onlyTraffic s p)
  | recovery p _ => exact slotsCoherent_of_onlyTraffic h (recover_onlyTraffic s p)
  | input i => exact slotsCoherent_of_onlyDrive h ((setCtl_onlyDrive s _).trans (onInput_onlyDrive _ i))
  | freshness i => exact notifyRoles_coherent (slotError_coherent h i true) i none
  | hold i expired => exact notifyRoles_coherent (setSlot_coherent h i (holdExpiry_coherent (h i) expired)) i none
  | phaseTimer => exact slotsCoherent_of_onlyDrive h (onPhaseTimer_onlyDrive s)
  | creep _ => exact slotsCoherent_of_onlyDrive h (disengageFor_onlyDrive s _ _)
  | ceiling => exact slotsCoherent_of_onlyDrive h ((setCeil_onlyDrive s _).trans (evaluateCeiling_onlyDrive _))
  | evaluation k => exact slotsCoherent_of_slots h (evaluateComp_slots k _)
  | validated v _ _ => exact completeValidation_coherent v h
  | stored v equal _ _ => exact completeStore_coherent v equal h
  | loaded _ => exact slotsCoherent_of_onlyTraffic (tablesTaken_coherent _) (serveWaiting_onlyTraffic _)
  | tick _ => exact tick_slotsCoherent h
  | nothing | pin | reassertion | senderHold | report | status | flash => exact slotsCoherent_of_slots h rfl

/-- Settles O56: every event keeps the law, and the queue of commands has no part in it. -/
theorem everyStepKeepsTheSlotLaws : Obligations.EveryStepKeepsTheSlotLaws := by
  unfold Obligations.EveryStepKeepsTheSlotLaws
  intro s t h e
  exact step_keeps (fun s l h => slotsCoherent_of_slots h rfl) (fun _ _ _ => event_coherent) h e

end Sys2Proof.Proofs.SlotLaws

/-! PROOF. What every operation of the Drive Interlock Controller and the Ceiling and Lockout Unit is made of: a property of the
state that its few primitive changes keep is kept by every event of the two blocks (chapters 4 and 5). -/

namespace Sys2Proof.Proofs.DriveClosure

open Sys2Proof.Machine

/-- The property is kept by the primitive changes of the drive blocks: their two records, a report, a lockout frame placed, and
the lockout frames held marked as generated earlier (R86, R120). -/
structure DriveClosed (P : State → Prop) : Prop where
  ctl : ∀ {s : State} (c : Controller), P s → P (s.setCtl c)
  ceil : ∀ {s : State} (u : CeilingUnit), P s → P { s with ceil := u }
  told : ∀ {s : State} (c : Cause) (i : Option Nat), P s → P (report c i s)
  placed : ∀ {s : State} (f : Frame), P s → P (placeLockout f s)
  stale : ∀ {s : State}, P s → P { s with places := { s.places with lockout := s.places.lockout.markStale } }

namespace DriveClosed

variable {P : State → Prop} (k : DriveClosed P) {s : State}
include k

/-! ## The ceiling and the lockout content (chapter 5) -/

theorem evaluateCeiling (h : P s) : P (evaluateCeiling s) := by
  unfold Machine.evaluateCeiling
  dsimp only
  split
  · exact k.ceil _ (k.told _ _ h)
  · exact k.ceil _ h

theorem emitLockout (h : P s) : P (emitLockout s) := k.ceil _ (k.placed _ h)

theorem changeContent (c : Content) (h : P s) : P (changeContent c s) := by
  cases c with
  | notEmitting => exact k.ceil _ h
  | none => exact k.ceil _ (k.placed _ h)
  | holdNeutral | holdPump | restrict => exact k.emitLockout (k.ceil _ h)

theorem nameContent (c : Content) (h : P s) : P (nameContent c s) := by
  unfold Machine.nameContent
  split
  · exact h
  · exact k.changeContent c h

theorem rewriteEffect (r : FrameRecord) (h : P s) : P (rewriteEffect r s) := by
  unfold Machine.rewriteEffect
  split
  · unfold guardEffect
    split
    · exact k.ceil _ h
    · split
      · exact k.changeContent _ (k.ceil _ h)
      · exact h
    · exact h
  · exact h

/-! ## Disengaging and its ends (R98 to R102) -/

theorem returnToRoad (h : P s) : P (returnToRoad s) := k.evaluateCeiling (k.nameContent _ (k.ctl _ h))

theorem testFaultHold (h : P s) : P (testFaultHold s) := by
  unfold Machine.testFaultHold
  split
  · exact k.returnToRoad h
  · exact h

theorem enterFaultHold (h : P s) : P (enterFaultHold s) :=
  k.testFaultHold (k.evaluateCeiling (k.nameContent _ (k.ctl _ h)))

theorem testD3 (h : P s) : P (testD3 s) := by
  unfold Machine.testD3
  split
  · exact k.returnToRoad h
  · exact h

theorem enterD3 (h : P s) : P (enterD3 s) := k.testD3 (k.nameContent _ (k.ctl _ h))

theorem testD2 (h : P s) : P (testD2 s) := by
  unfold Machine.testD2
  split
  · exact k.enterD3 h
  · exact h

theorem enterD2 (h : P s) : P (enterD2 s) := k.testD2 (k.nameContent _ (k.ctl _ h))

theorem testD1 (h : P s) : P (testD1 s) := by
  unfold Machine.testD1
  split
  · exact k.enterD2 h
  · exact h

theorem enterDisengaging (c : DisCause) (h : P s) : P (enterDisengaging c s) :=
  k.testD1 (k.evaluateCeiling (k.ctl _ h))

theorem disengageFor (c : Cause) (i : Option Nat) (h : P s) : P (disengageFor c i s) :=
  k.enterDisengaging _ (k.told c i h)

/-! ## Pumping, rolling and engaging (R86 to R97) -/

theorem testCreep (h : P s) : P (testCreep s) := by
  unfold Machine.testCreep
  split
  · split
    · exact h
    · split
      · exact k.disengageFor _ _ h
      · exact k.ctl _ h
  · exact k.ctl _ h

theorem updateRollFlags (h : P s) : P (updateRollFlags s) := by
  have told {t : State} (c : Prop) [Decidable c] (cause : Cause) (ht : P t) :
      P (if c then report cause none t else t) := by
    split
    · exact k.told _ _ ht
    · exact ht
  exact told _ _ (told _ _ (k.ctl _ h))

theorem enterPump (h : P s) : P (enterPump s) := k.testCreep (k.evaluateCeiling (k.nameContent _ (k.ctl _ h)))

theorem enterRoll (h : P s) : P (enterRoll s) :=
  k.evaluateCeiling (k.updateRollFlags (k.nameContent _ (k.ceil _ (k.ctl _ h))))

theorem testMainC (h : P s) : P (testMainC s) := by
  unfold Machine.testMainC
  split
  · exact k.enterPump h
  · exact h

theorem enterMainC (h : P s) : P (enterMainC s) := k.testMainC (k.nameContent _ (k.ctl _ h))

theorem enterMainB (h : P s) : P (enterMainB s) := by
  have named {c : Controller} : P (Machine.nameContent .holdNeutral (s.setCtl c)) := k.nameContent _ (k.ctl _ h)
  unfold Machine.enterMainB
  dsimp only
  split
  · exact k.enterMainC named
  · exact named

theorem enterAuxB (h : P s) : P (enterAuxB s) := by
  have named {c : Controller} : P (Machine.nameContent .holdNeutral (s.setCtl c)) := k.nameContent _ (k.ctl _ h)
  unfold Machine.enterAuxB
  dsimp only
  split
  · exact k.enterRoll named
  · exact named

theorem testPhaseA (h : P s) : P (testPhaseA s) := by
  unfold Machine.testPhaseA
  split
  · split
    · exact k.enterMainB h
    · exact k.enterAuxB h
    · exact h
  · exact h

theorem enterPhaseA (app : AppState) (h : P s) : P (enterPhaseA app s) :=
  k.testPhaseA (k.evaluateCeiling (k.nameContent _ (k.stale (k.ctl _ h))))

/-! ## Requests and notifications (R66, R78, R81, R82) -/

theorem requestEvent (r : Request) (h : P s) : P (requestEvent r s) := by
  unfold Machine.requestEvent
  split
  · exact h
  · split
    · exact h
    all_goals
      split
      · exact k.told _ _ h
      · exact k.enterPhaseA _ h
  all_goals try split
  all_goals first
    | exact h
    | exact k.told _ _ h
    | exact k.enterDisengaging _ h
    | exact k.testFaultHold h

theorem takeRequestValue (v : Int) (h : P s) : P (takeRequestValue v s) := by
  unfold Machine.takeRequestValue
  split
  · exact h
  · split
    · exact h
    · split
      · exact k.ctl _ h
      · split
        · exact h
        · exact k.requestEvent _ (k.ctl _ h)

theorem onRoadSpeed (h : P s) : P (onRoadSpeed s) := by
  unfold Machine.onRoadSpeed
  split
  case h_3 => exact k.testCreep h
  case h_4 => exact k.updateRollFlags h
  case h_1 | h_2 =>
    split
    · exact k.disengageFor _ _ h
    · exact h
  all_goals exact h

theorem onEngineSpeed (h : P s) : P (onEngineSpeed s) := by
  unfold Machine.onEngineSpeed
  split
  · exact k.testPhaseA h
  · exact k.testD1 h
  all_goals exact h

theorem onCurrentRange (h : P s) : P (onCurrentRange s) := by
  unfold Machine.onCurrentRange
  split
  · exact k.testPhaseA h
  · exact k.testMainC h
  · exact k.testD2 h
  · split
    · exact k.testFaultHold h
    · exact h
  all_goals exact h

theorem notify (r : Role) (v : Option Int) (h : P s) : P (notify r v s) := by
  cases r with
  | roadSpeed => exact k.onRoadSpeed h
  | engineSpeed => exact k.onEngineSpeed h
  | currentRange => exact k.onCurrentRange h
  | modeRequest =>
    cases v with
    | none => exact h
    | some v => exact k.takeRequestValue v h
  | intakePressure => exact h

theorem notifyRoles (i : Fin 32) (v : Option Int) (h : P s) : P (notifyRoles i v s) := by
  unfold Machine.notifyRoles
  generalize s.tables.active.roles.rolesAt i = l
  induction l generalizing s with
  | nil => exact h
  | cons r l ih => exact ih (k.notify r v h)

/-! ## Inputs, timers and frames (R77, R79, R86, R87, R89 to R94, R96, R101 to R104) -/

theorem onPark (h : P s) : P (onPark s) := by
  unfold Machine.onPark
  split
  · split
    · exact h
    · exact k.disengageFor _ _ h
  · split
    · exact k.evaluateCeiling (k.ctl _ h)
    · exact k.evaluateCeiling (k.told _ _ (k.ctl _ h))
  all_goals exact h

theorem roadFeedback (i : Nat) (active : Bool) (h : P s) : P (roadFeedback i active s) := by
  unfold Machine.roadFeedback
  split
  · exact k.told _ _ (k.ctl _ h)
  · split
    · exact k.ctl _ h
    · exact h

theorem onMainFb (h : P s) : P (onMainFb s) := by
  unfold Machine.onMainFb
  dsimp only
  repeat' split
  all_goals first
    | exact h
    | exact k.roadFeedback _ _ h
    | exact k.disengageFor _ _ h
    | exact k.enterMainC h
    | exact k.testD3 h
    | exact k.testFaultHold h

theorem onAuxFb (h : P s) : P (onAuxFb s) := by
  unfold Machine.onAuxFb
  dsimp only
  repeat' split
  all_goals first
    | exact h
    | exact k.roadFeedback _ _ h
    | exact k.disengageFor _ _ h
    | exact k.enterRoll h
    | exact k.testD3 h
    | exact k.testFaultHold h

theorem onInput (i : InputId) (h : P s) : P (onInput i s) := by
  cases i with
  | parkSw => exact k.onPark h
  | mainFb => exact k.onMainFb h
  | auxFb => exact k.onAuxFb h

theorem onLockoutSuccess (stale : Bool) (h : P s) : P (onLockoutSuccess stale s) := by
  unfold Machine.onLockoutSuccess
  split
  · exact k.testPhaseA (k.ctl _ h)
  all_goals exact h

theorem onPhaseTimer (h : P s) : P (onPhaseTimer s) := by
  unfold Machine.onPhaseTimer
  split
  · exact h
  · exact k.disengageFor _ _ h
  · exact k.disengageFor _ _ h
  · exact k.disengageFor _ _ h
  · exact k.enterD2 (k.told _ _ h)
  · exact k.enterD3 (k.told _ _ h)
  · exact k.enterFaultHold (k.told _ _ h)

theorem onTablesTaken (h : P s) : P (onTablesTaken s) := by
  have told {t : State} (c : Prop) [Decidable c] (i : Option Nat) (ht : P t) :
      P (if c then report .feedbackMismatch i t else t) := by
    split
    · exact k.told _ _ ht
    · exact ht
  unfold Machine.onTablesTaken
  dsimp only
  split
  · exact k.evaluateCeiling (told _ _ (told _ _ (k.nameContent _ (k.ctl _ (k.ctl _ h)))))
  · exact k.ctl _ h

end DriveClosed

end Sys2Proof.Proofs.DriveClosure

/-! PROOF. What the other blocks' events are made of: a property that their primitive changes keep is kept by the Signal Tracker,
the Tank Gauge Unit and Table Memory's effects on the neighbours, by the service of requests, and so by every step. -/

namespace Sys2Proof.Proofs.Closure

open Sys2Proof.Machine Sys2Proof.Proofs.DriveClosure Sys2Proof.Proofs.Events Sys2Proof.Proofs.Attempts

/-! ## Signals, tanks and tables (chapters 3, 6 and 7) -/

/-- A record enters its queue untried (R22). -/
theorem recordOf_attempts (e : FctEntry) (f : Frame) : (e.recordOf f).attempts = 0 := by
  unfold FctEntry.recordOf
  split <;> rfl

/-- The property is kept by the primitive changes of the drive, the signals, the tanks and the periodic frames. -/
structure BlockClosed (P : State → Prop) : Prop extends DriveClosed P where
  slots : ∀ {s : State} (v : Vector Slot 32), P s → P { s with slots := v }
  hits : ∀ {s : State} (n : Vector Nat 48), P s → P { s with tables := { s.tables with hits := n } }
  tank : ∀ {s : State} (u : TankUnit), P s → P { s with tank := u }
  level : ∀ {s : State} (f : Frame), P s → P (placeLevel f s)
  status : ∀ {s : State} (f : Frame), P s → P (placeStatus f s)
  timers : ∀ {s : State} (t : Option Nat) (p : Page), P s → P { s with engine := { s.engine with
    statusTimer := t, nextPage := p } }

namespace BlockClosed

variable {P : State → Prop} (k : BlockClosed P) {s : State}
include k

theorem slotError (i : Fin 32) (reload : Bool) (h : P s) : P (slotError i reload s) := by
  unfold Machine.slotError
  dsimp only
  split
  · exact k.told _ _ (k.slots _ h)
  · exact k.slots _ h

theorem updateEvent (i : Fin 32) (u : Update) (h : P s) : P (updateEvent i u s) := by
  unfold Machine.updateEvent
  split
  · exact k.notifyRoles i _ (k.slotError i _ h)
  · exact k.notifyRoles i _ (k.slots _ h)

theorem runExtractors (xs : List Extractor) (f : Frame) (h : P s) : P (runExtractors xs f s) := by
  unfold Machine.runExtractors
  induction xs generalizing s with
  | nil => exact h
  | cons x xs ih => exact ih (k.updateEvent x.slot _ h)

theorem classify (p : Port) (f : Frame)
    (offered : ∀ {s : State} (r : FrameRecord), r.attempts = 0 → P s → P (offer (queueFrom p) r s)) (h : P s) :
    P (classify p f s) := by
  unfold Machine.classify
  split
  · exact offered _ rfl h
  · split
    · split
      · exact offered _ rfl h
      · exact h
    · rename_i i _
      have hit : P (countHit i s) := k.hits _ h
      have extracted : P (if s.tables.active.fct[i].action.extracts then
          Machine.runExtractors s.tables.active.fct[i].extractors f (countHit i s) else countHit i s) := by
        split
        · exact k.runExtractors _ f hit
        · exact hit
      dsimp only
      split
      · exact offered _ (recordOf_attempts _ f) extracted
      · exact extracted

theorem levelReport (h : P s) : P (levelReport s) := k.tank _ (k.level _ h)

theorem becomeUnknown (c : Fin 4) (h : P s) : P (becomeUnknown c s) := k.told _ _ (k.tank _ h)

theorem evaluateStages (c : Fin 4) (h : P s) : P (evaluateStages c s) := by
  unfold Machine.evaluateStages
  dsimp only
  split
  · exact h
  · split
    · unfold evaluateNoSender
      dsimp only
      split
      · split
        · exact k.becomeUnknown c h
        · exact k.tank _ h
      all_goals exact h
    · exact k.tank _ h

theorem evaluateComp (c : Fin 4) (h : P s) : P (evaluateComp c s) := by
  unfold Machine.evaluateComp
  dsimp only
  split
  · exact k.levelReport (k.evaluateStages c h)
  · exact k.evaluateStages c h

theorem loadStatusTimer (h : P s) : P (loadStatusTimer s) := k.timers _ s.engine.nextPage h

theorem tablesTaken (h : P s) : P (tablesTaken s) := by
  have hits : P (zeroHits s) := k.hits _ h
  have slots : P (resetSlots (zeroHits s)) := k.slots _ hits
  have comps : P (resetComps (resetSlots (zeroHits s))) := k.tank _ slots
  exact k.loadStatusTimer (k.onTablesTaken (k.levelReport comps))

end BlockClosed

/-! ## The service of requests (chapter 8) -/

/-- The property is kept by what the service of a request may do. -/
structure ServiceClosed (P : State → Prop) : Prop where
  engine : ∀ {s : State} (g : Engine), P s → P { s with engine := g }
  shadow : ∀ {s : State} (b : Bank), P s → P { s with tables := { s.tables with shadow := b } }
  hits : ∀ {s : State} (n : Vector Nat 48), P s → P { s with tables := { s.tables with hits := n } }
  faults : ∀ {s : State} (u : FaultUnit), P s → P { s with faults := u }
  response : ∀ {s : State} (place : RespPlace) (f : Frame), P s → P (placeResponse place f s)
  busy : ∀ {s : State} (f : Frame), P s → P { s with places := { s.places with busy := some (newLocal f) } }
  clearPort : ∀ {s : State} (p : Port), P s → P (s.setPort p (s.port p).clearCounters)
  clearQueue : ∀ {s : State} (q : QueueId), P s → P (s.setQueue q (s.queue q).clearCounters)
  quiesce : ∀ {s : State} (p : Port), P s → P (serveQuiesce p s).1
  cut : ∀ {s : State} (p : Port), P s → P (cutPort p s)
  resume : ∀ {s : State} (p : Port), P s → P (serveResume p s).1

namespace ServiceClosed

variable {P : State → Prop} (k : ServiceClosed P) {s : State}
include k

theorem serveClearCounters (d : List Byte) (h : P s) : P (serveClearCounters d s).1 := by
  unfold Machine.serveClearCounters
  split
  · exact k.clearPort .chassis h
  · exact k.clearPort .body h
  · exact k.clearQueue .bc h
  · exact k.clearQueue .cb h
  · exact k.hits _ h
  · exact k.engine _ h
  · exact h

theorem servePortControl (d : List Byte) (h : P s) : P (servePortControl d s).1 := by
  unfold Machine.servePortControl
  split
  · exact h
  · split
    · exact k.quiesce _ h
    · unfold serveCut
      split
      · exact h
      · exact k.cut _ h
    · exact k.resume _ h
    · exact h

theorem serveWriteTable (d : List Byte) (h : P s) : P (serveWriteTable d s).1 := by
  unfold Machine.serveWriteTable
  dsimp only
  split
  · exact h
  · split
    · exact h
    · exact k.shadow _ h

theorem serveKind (f : Frame) (place : RespPlace) (h : P s) : P (serveKind f place s).1 := by
  unfold Machine.serveKind
  dsimp only
  split
  case h_5 => exact k.serveWriteTable _ h
  case h_6 => exact k.shadow _ h
  case h_7 =>
    unfold serveActivate
    split
    · exact h
    · split
      · exact k.engine _ h
      · exact k.faults _ h
  case h_9 => exact k.servePortControl _ h
  case h_11 => exact k.serveClearCounters _ h
  case h_13 | h_14 => exact k.faults _ h
  case h_15 =>
    unfold serveRestart
    split
    all_goals exact k.engine _ h
  all_goals exact h

theorem serveRequest (f : Frame) (place : RespPlace) (h : P s) : P (serveRequest f place s) := by
  have kind := k.serveKind f place h
  unfold Machine.serveRequest
  split
  · exact k.response _ _ h
  · split
    · rename_i e
      rw [e] at kind
      exact k.response _ _ kind
    · rename_i e
      rwa [e] at kind

theorem serveNext (h : P s) : P (serveNext s) := by
  unfold Machine.serveNext
  split
  · split
    · exact k.serveRequest _ _ (k.engine _ h)
    · exact h
  · exact h

theorem serveWaiting (h : P s) : P (serveWaiting s) := k.serveNext (k.serveNext h)

theorem serveIfFreed (src : Source) (h : P s) : P (serveIfFreed src s) := by
  unfold Machine.serveIfFreed
  split
  · split
    · exact k.serveWaiting h
    · exact h
  all_goals exact h

theorem intake (f : Frame) (h : P s) : P (intake f s) := by
  unfold Machine.intake
  split
  · exact k.serveWaiting (k.engine _ h)
  · unfold busyResponder
    split
    · exact k.engine _ h
    · exact k.busy _ h

theorem finishService (v : Service) (r : Reply) (h : P s) : P (finishService v r s) :=
  k.serveWaiting (k.response _ _ (k.engine _ h))

end ServiceClosed

/-! ## Steps -/

/-- The property is kept by every event: the events of signals, drive and tanks by their primitive changes, those of the links,
the tables and the resets as they stand. -/
structure EventClosed (P : State → Prop) : Prop extends BlockClosed P where
  pending : ∀ {s : State} (l : List Instr), P s → P { s with pending := l }
  reset : ∀ {s : State} (x : Straps), P s → P (hardReset x s)
  restart : ∀ {s : State}, P s → P (softReset s)
  arrival : ∀ {s : State} (p : Port) (f : Frame), P s → P (arrive p f s)
  move : ∀ {s : State} (q : QueueId), P s → P (s.setQueue q (s.queue q).move)
  start : ∀ {s : State} (p : Port), P s → P (startAttempt p s)
  success : ∀ {s : State} (p : Port), P s → P (endInSuccess p s)
  failure : ∀ {s : State} (p : Port), P s → P (endInFailure p s)
  loss : ∀ {s : State} (p : Port), P s → P (endInLoss p s)
  recovery : ∀ {s : State} (p : Port), (s.port p).st = .busFault → P s → P (recover p s)
  validated : ∀ {s : State} (v : Service), s.engine.inService = some v → P s → P (completeValidation v s)
  stored : ∀ {s : State} (v : Service) (equal : Bool), s.engine.inService = some v → P s → P (completeStore v equal s)
  loaded : ∀ {s : State}, P s → P (completeLoad s)
  tick : ∀ {s : State}, P s → P (tick s)

theorem EventClosed.event {P : State → Prop} (k : EventClosed P) {c : Instr} {s t : State} (e : Event c s t) (h : P s) :
    P t := by
  cases e with
  | nothing => exact h
  | reset x _ => exact k.reset x h
  | restart => exact k.restart h
  | arrival p f => exact k.arrival p f h
  | move q => exact k.move q h
  | start p => exact k.start p h
  | success p _ => exact k.success p h
  | failure p => exact k.failure p h
  | loss p => exact k.loss p h
  | recovery p down => exact k.recovery p down h
  | pin => exact k.ctl _ h
  | input i => exact k.onInput i (k.ctl _ h)
  | freshness i => exact k.notifyRoles i _ (k.slotError i _ h)
  | hold i _ => exact k.notifyRoles i _ (k.slots _ h)
  | phaseTimer => exact k.onPhaseTimer h
  | creep _ => exact k.disengageFor _ _ h
  | ceiling => exact k.evaluateCeiling (k.ceil _ h)
  | reassertion _ => exact k.emitLockout h
  | evaluation c => exact k.evaluateComp c (k.tank _ h)
  | senderHold c => exact k.levelReport (k.becomeUnknown c h)
  | report => exact k.levelReport h
  | status =>
    exact k.loadStatusTimer (k.timers (s := placeStatus (s.statusFrame s.engine.nextPage) s) s.engine.statusTimer _
      (k.status _ h))
  | flash _ => exact k.ctl _ h
  | validated v served _ => exact k.validated v served h
  | stored v equal served _ => exact k.stored v equal served h
  | loaded _ => exact k.loaded h
  | tick _ => exact k.tick h

theorem EventClosed.step {P : State → Prop} (k : EventClosed P) {s t : State} (h : P s) (e : step s = .next t) : P t :=
  step_keeps (fun _ l h => k.pending l h) (fun _ _ _ e => k.event e) h e

end Sys2Proof.Proofs.Closure

/-! PROOF. The forwarding queues: what an offer and a move do to a queue, that both keep the law of its body, and that every
record which enters a queue leaves it once (R26 to R30, R34, R49). -/

namespace Sys2Proof.Proofs.Queues

open Sys2Proof.Machine Sys2Proof.Safety Sys2Proof.Laws.Terms Sys2Proof.Proofs.DriveClosure Sys2Proof.Proofs.Closure
  Sys2Proof.Proofs.Attempts Sys2Proof.Proofs.Resets

variable {s : State} {u : Queue} {r : FrameRecord}

/-! ## Superseding in place (R28) -/

theorem supersedes_eq_true {new old : FrameRecord} : new.supersedes old = true ↔ Rivals new old := by
  rw [supersedes_iff, decide_eq_true_iff]

theorem rivals_symm {a b : FrameRecord} (h : Rivals a b) : Rivals b a :=
  ⟨h.2.1, h.1, h.2.2.1.symm, h.2.2.2.symm⟩

theorem supersedeIn_first {new old : FrameRecord} {before after : List FrameRecord}
    (clear : ∀ x ∈ before, ¬Rivals x new) (hit : Rivals new old) :
    supersedeIn new (before ++ old :: after) = before ++ old.replaceBy new :: after := by
  induction before with
  | nil => simp [supersedeIn, supersedes_eq_true.mpr hit]
  | cons x before ih =>
    have miss : ¬new.supersedes x = true := fun h =>
      clear x List.mem_cons_self (rivals_symm (supersedes_eq_true.mp h))
    rw [List.cons_append, supersedeIn, if_neg miss, ih fun y hy => clear y (List.mem_cons_of_mem x hy)]
    rfl

/-- The content of a superseded record is the new one's; its identifier and format are the same in both. -/
theorem replaceBy_eq {new old : FrameRecord} (hit : Rivals new old) :
    old.replaceBy new = { new with kind := old.kind, attempts := 0 } := by
  obtain ⟨-, -, ident, format⟩ := hit
  unfold FrameRecord.replaceBy
  rw [← ident, ← format]

/-- Settles O13: the first match is superseded in place, and a move takes the oldest record. -/
theorem supersedesAndMovesKeepTheOrder : Obligations.SupersedesAndMovesKeepTheOrder := by
  unfold Obligations.SupersedesAndMovesKeepTheOrder
  refine ⟨fun q s new old before after open_ body newLatest oldLatest ident format clear => ?supersede,
    fun q s r rest empty body => ?move⟩
  case supersede =>
    have hit : Rivals new old := ⟨newLatest, oldLatest, ident.symm, format.symm⟩
    have any : (s.queue q).body.any new.supersedes = true := by
      rw [body, List.any_append, List.any_cons, supersedes_eq_true.mpr hit]
      simp
    rw [offer_supersedes s open_ any, body, supersedeIn_first clear hit, replaceBy_eq hit]
  case move =>
    have moves : exec (.queueMove q) s = .next (s.setQueue q (s.queue q).move) := rfl
    rw [moves, Queue.move_takes empty body]

/-! ## The law of one queue (R26, R28, R34) -/

theorem queueCoherent_of_same {u v : Queue} (h : QueueCoherent u) (body : v.body = u.body) (out : v.out = u.out) :
    QueueCoherent v := by
  obtain ⟨size, latest, fresh, tried⟩ := h
  constructor
  · rwa [body]
  · rwa [body]
  · rwa [body]
  · rwa [out]

/-- The identifier, format and latest-only flag of a superseded record are those of the new one, so the record has no other
rivals than before. -/
theorem rivals_replaceBy {new old x : FrameRecord} (hit : Rivals new old) :
    Rivals (old.replaceBy new) x ↔ Rivals old x := by
  obtain ⟨newLatest, oldLatest, ident, format⟩ := hit
  simp [Rivals, FrameRecord.replaceBy, newLatest, oldLatest]

theorem mem_supersedeIn {new x : FrameRecord} {l : List FrameRecord} (h : x ∈ supersedeIn new l) :
    x ∈ l ∨ ∃ old ∈ l, Rivals new old ∧ x = old.replaceBy new := by
  induction l with
  | nil => simp [supersedeIn] at h
  | cons a l ih =>
    unfold supersedeIn at h
    split at h
    · rename_i hit
      rcases List.mem_cons.mp h with rfl | h
      · exact .inr ⟨a, List.mem_cons_self, supersedes_eq_true.mp hit, rfl⟩
      · exact .inl (List.mem_cons_of_mem a h)
    · rcases List.mem_cons.mp h with rfl | h
      · exact .inl List.mem_cons_self
      · rcases ih h with h | ⟨old, mem, rest⟩
        · exact .inl (List.mem_cons_of_mem a h)
        · exact .inr ⟨old, List.mem_cons_of_mem a mem, rest⟩

theorem supersedeIn_pairwise {l : List FrameRecord} (h : l.Pairwise fun a b => ¬Rivals a b) (new : FrameRecord) :
    (supersedeIn new l).Pairwise fun a b => ¬Rivals a b := by
  induction l with
  | nil => simp [supersedeIn]
  | cons a l ih =>
    obtain ⟨alone, rest⟩ := List.pairwise_cons.mp h
    unfold supersedeIn
    split
    · rename_i hit
      exact List.pairwise_cons.mpr
        ⟨fun b hb => mt (rivals_replaceBy (supersedes_eq_true.mp hit)).mp (alone b hb), rest⟩
    · refine List.pairwise_cons.mpr ⟨fun b hb rivals => ?_, ih rest⟩
      rcases mem_supersedeIn hb with hb | ⟨old, mem, hit, rfl⟩
      · exact alone b hb rivals
      · exact alone old mem (rivals_symm ((rivals_replaceBy hit).mp (rivals_symm rivals)))

theorem supersede_coherent (h : QueueCoherent u) (new : FrameRecord) (n : Count) :
    QueueCoherent { u with body := supersedeIn new u.body, superseded := n } where
  size := by
    rw [supersedeIn_length]
    exact h.size
  latest := supersedeIn_pairwise h.latest new
  fresh := by
    intro x hx
    rcases mem_supersedeIn hx with hx | ⟨old, -, -, rfl⟩
    · exact h.fresh x hx
    · rfl
  tried := h.tried

theorem enter_coherent (h : QueueCoherent u) (none_ : u.body.any r.supersedes = false) (room : u.body.length < 16)
    (fresh : r.attempts = 0) (n : Count) : QueueCoherent { u with body := u.body ++ [r], entered := n } where
  size := by simpa using room
  latest := by
    refine List.pairwise_append.mpr ⟨h.latest, List.pairwise_singleton _ _, fun a ha b hb rivals => ?_⟩
    obtain rfl := List.mem_singleton.mp hb
    have hit := List.any_eq_false.mp none_ a ha
    exact hit (supersedes_eq_true.mpr (rivals_symm rivals))
  fresh := by
    intro x hx
    rcases List.mem_append.mp hx with hx | hx
    · exact h.fresh x hx
    · obtain rfl := List.mem_singleton.mp hx
      exact fresh
  tried := h.tried

theorem move_coherent (h : QueueCoherent u) : QueueCoherent u.move := by
  cases out : u.out with
  | some r => rwa [Queue.move_occupied out]
  | none =>
    cases body : u.body with
    | nil => rwa [Queue.move_empty body]
    | cons r rest =>
      rw [Queue.move_takes out body]
      obtain ⟨size, latest, fresh, -⟩ := h
      rw [body] at size latest fresh
      refine ⟨Nat.le_of_succ_le size, (List.pairwise_cons.mp latest).2, fun x hx => fresh x (List.mem_cons_of_mem r hx),
        fun x hx => ?_⟩
      obtain rfl := Option.mem_some.mp hx
      rw [fresh r List.mem_cons_self]
      decide

theorem emptied_coherent (h : QueueCoherent u) {v : Queue} (body : v.body = u.body) (out : v.out = none) :
    QueueCoherent v := by
  obtain ⟨size, latest, fresh, -⟩ := h
  constructor
  · rwa [body]
  · rwa [body]
  · rwa [body]
  · rw [out]
    nofun

theorem flush_coherent (u : Queue) : QueueCoherent u.flush := by
  constructor <;> simp [Queue.flush]

/-! ## Both queues of a state -/

theorem queuesCoherent_iff : QueuesCoherent s ↔ ∀ q, QueueCoherent (s.queue q) :=
  ⟨fun h q => by cases q; exacts [h.1, h.2], fun h => ⟨h .bc, h .cb⟩⟩

theorem queuesCoherent_of_queues {t : State} (h : QueuesCoherent s) (bc : t.bc = s.bc) (cb : t.cb = s.cb) :
    QueuesCoherent t := by
  unfold QueuesCoherent
  rwa [bc, cb]

theorem setQueue_coherent (h : QueuesCoherent s) (q : QueueId) (hu : QueueCoherent u) :
    QueuesCoherent (s.setQueue q u) := by
  cases q
  · exact ⟨hu, h.2⟩
  · exact ⟨h.1, hu⟩

theorem setPort_coherent (h : QueuesCoherent s) (p : Port) (x : PortRec) : QueuesCoherent (s.setPort p x) :=
  queuesCoherent_of_queues h (State.setPort_bc s p x) (State.setPort_cb s p x)

theorem settleDrained_coherent (h : QueuesCoherent s) (p : Port) : QueuesCoherent (settleDrained p s) := by
  unfold settleDrained
  split
  · exact setPort_coherent h p _
  · exact h

theorem offer_coherent (h : QueuesCoherent s) (q : QueueId) (fresh : r.attempts = 0) : QueuesCoherent (offer q r s) := by
  have hq := queuesCoherent_iff.mp h q
  unfold offer
  dsimp only
  split
  · exact setQueue_coherent h q (queueCoherent_of_same hq rfl rfl)
  · split
    · exact setQueue_coherent h q (supersede_coherent hq r _)
    · split
      · exact setQueue_coherent h q (queueCoherent_of_same hq rfl rfl)
      · exact setQueue_coherent h q (enter_coherent hq (Bool.not_eq_true _ ▸ ‹_›) (Nat.not_le.mp ‹_›) fresh _)

theorem queues_blockClosed : BlockClosed QueuesCoherent where
  ctl _ h := queuesCoherent_of_queues h rfl rfl
  ceil _ h := queuesCoherent_of_queues h rfl rfl
  told _ _ h := queuesCoherent_of_queues h rfl rfl
  placed _ h := queuesCoherent_of_queues h rfl rfl
  stale h := queuesCoherent_of_queues h rfl rfl
  slots _ h := queuesCoherent_of_queues h rfl rfl
  hits _ h := queuesCoherent_of_queues h rfl rfl
  tank _ h := queuesCoherent_of_queues h rfl rfl
  level _ h := queuesCoherent_of_queues h rfl rfl
  status _ h := queuesCoherent_of_queues h rfl rfl
  timers _ _ h := queuesCoherent_of_queues h rfl rfl

/-! ## Port control (R44 to R46) -/

theorem serveQuiesce_coherent (h : QueuesCoherent s) (p : Port) : QueuesCoherent (serveQuiesce p s).1 := by
  unfold serveQuiesce
  dsimp only
  split
  · exact h
  · split
    · exact settleDrained_coherent (setPort_coherent h p _) p
    · exact h
    · exact h
    · exact setPort_coherent h p _

theorem cutPort_coherent (h : QueuesCoherent s) (p : Port) : QueuesCoherent (cutPort p s) :=
  queuesCoherent_of_queues (setQueue_coherent (setPort_coherent h p _) (queueToward p) (flush_coherent _)) rfl rfl

theorem serveResume_coherent (h : QueuesCoherent s) (p : Port) : QueuesCoherent (serveResume p s).1 := by
  unfold serveResume
  dsimp only
  split
  · exact h
  · exact setPort_coherent h p _
  · exact setPort_coherent h p _
  · exact h

theorem queues_serviceClosed : ServiceClosed QueuesCoherent where
  engine _ h := queuesCoherent_of_queues h rfl rfl
  shadow _ h := queuesCoherent_of_queues h rfl rfl
  hits _ h := queuesCoherent_of_queues h rfl rfl
  faults _ h := queuesCoherent_of_queues h rfl rfl
  response _ _ h := queuesCoherent_of_queues h rfl rfl
  busy _ h := queuesCoherent_of_queues h rfl rfl
  clearPort p h := setPort_coherent h p _
  clearQueue q h := setQueue_coherent h q (queueCoherent_of_same (queuesCoherent_iff.mp h q) rfl rfl)
  quiesce p h := serveQuiesce_coherent h p
  cut p h := cutPort_coherent h p
  resume p h := serveResume_coherent h p

/-! ## Attempts (R31 to R35) -/

theorem recordSuccess_coherent (h : QueuesCoherent s) (p : Port) : QueuesCoherent (recordSuccess p s) := by
  have sent (n : Count) : QueueCoherent { s.queue (queueToward p) with out := none, transmitted := n } :=
    emptied_coherent (queuesCoherent_iff.mp h (queueToward p)) rfl rfl
  exact settleDrained_coherent (setQueue_coherent (setPort_coherent h p _) _ (sent _)) p

theorem recordFailure_coherent (h : QueuesCoherent s) (p : Port) : QueuesCoherent (recordFailure p s) := by
  have hq := queuesCoherent_iff.mp h (queueToward p)
  unfold recordFailure
  dsimp only
  split
  · exact h
  · split
    · refine setQueue_coherent h _ { hq with tried := fun x hx => ?_ }
      obtain rfl := Option.mem_some.mp hx
      assumption
    · exact setQueue_coherent h _ (emptied_coherent hq rfl rfl)

theorem localFailure_coherent (h : QueuesCoherent s) (p : Port) (src : Source) :
    QueuesCoherent (localFailure p src s) := by
  unfold localFailure
  split
  · exact h
  · dsimp only
    split
    · exact queuesCoherent_of_queues h rfl rfl
    · exact queuesCoherent_of_queues (setPort_coherent h p _) rfl rfl

theorem checkBusFault_coherent (h : QueuesCoherent s) (p : Port) : QueuesCoherent (checkBusFault p s) := by
  unfold checkBusFault
  dsimp only
  split
  · exact setPort_coherent h p _
  · exact h

theorem resets_coherent {t : State} (bc : t.bc = State.reset.bc) (cb : t.cb = State.reset.cb) : QueuesCoherent t :=
  queuesCoherent_of_queues ⟨resetQueue_coherent, resetQueue_coherent⟩ bc cb

theorem tellSuccess_coherent (h : QueuesCoherent s) (src : Source) (stale : Bool) :
    QueuesCoherent (tellSuccess src stale s) := by
  unfold tellSuccess
  split
  · exact queues_blockClosed.onLockoutSuccess stale h
  · split
    · split
      · rw [softReset_eq]
        exact resets_coherent rfl rfl
      · exact queues_serviceClosed.serveWaiting h
    · exact queues_serviceClosed.serveWaiting h
  all_goals exact h

theorem endInSuccess_coherent (h : QueuesCoherent s) (p : Port) : QueuesCoherent (endInSuccess p s) := by
  have sent : QueuesCoherent (succeeded p s) := setPort_coherent h p _
  rcases attempt_cases s p with idle | ⟨a, attempt, src⟩ | ⟨a, attempt, src⟩
  · rwa [endInSuccess_idle idle]
  · rw [endInSuccess_output attempt src]
    exact recordSuccess_coherent sent p
  · rw [endInSuccess_local attempt src]
    refine tellSuccess_coherent (settleDrained_coherent ?_ p) _ _
    exact queuesCoherent_of_queues (setPort_coherent sent p _) rfl rfl

theorem endInFailure_coherent (h : QueuesCoherent s) (p : Port) : QueuesCoherent (endInFailure p s) := by
  have failed : QueuesCoherent (failed p s) := setPort_coherent h p _
  rcases attempt_cases s p with idle | ⟨a, attempt, src⟩ | ⟨a, attempt, src⟩
  · rwa [endInFailure_idle idle]
  · rw [endInFailure_output attempt src]
    exact settleDrained_coherent (checkBusFault_coherent (recordFailure_coherent failed p) p) p
  · rw [endInFailure_local attempt src]
    exact queues_serviceClosed.serveIfFreed _
      (settleDrained_coherent (checkBusFault_coherent (localFailure_coherent failed p _) p) p)

theorem startAttempt_coherent (h : QueuesCoherent s) (p : Port) : QueuesCoherent (startAttempt p s) := by
  unfold startAttempt
  split
  · exact h
  · split
    · exact h
    · dsimp only
      split
      · exact h
      · exact setPort_coherent (queues_blockClosed.rewriteEffect _ h) p _
    · split
      · exact h
      · exact setPort_coherent h p _

theorem endInLoss_coherent (h : QueuesCoherent s) (p : Port) : QueuesCoherent (endInLoss p s) := by
  cases attempt : (s.port p).attempt with
  | none => rwa [endInLoss_idle attempt]
  | some a =>
    rw [endInLoss_attempt attempt]
    exact queuesCoherent_of_queues (setPort_coherent h p _) rfl rfl

/-! ## Arrivals and completions -/

theorem arrive_coherent (h : QueuesCoherent s) (p : Port) (f : Frame) : QueuesCoherent (arrive p f s) := by
  unfold arrive
  dsimp only
  split
  · split
    · exact queues_serviceClosed.intake f (setPort_coherent h p _)
    · exact queues_blockClosed.classify p f (fun _ fresh h => offer_coherent h _ fresh) (setPort_coherent h p _)
  · exact h

theorem completeValidation_coherent (h : QueuesCoherent s) (v : Service) : QueuesCoherent (completeValidation v s) := by
  have copied : QueuesCoherent (activationCopy s) := queues_blockClosed.tablesTaken (queuesCoherent_of_queues h rfl rfl)
  have answered {t : State} (r : Reply) (ht : QueuesCoherent t) : QueuesCoherent (finishService v r t) :=
    queues_serviceClosed.finishService v r ht
  unfold completeValidation
  split
  · exact answered _ h
  · split
    · exact answered _ h
    · split
      · exact queuesCoherent_of_queues copied rfl rfl
      · exact answered _ copied

theorem completeStore_coherent (h : QueuesCoherent s) (v : Service) (equal : Bool) :
    QueuesCoherent (completeStore v equal s) := by
  unfold completeStore
  split
  · exact queues_serviceClosed.finishService v _ (queuesCoherent_of_queues h rfl rfl)
  · exact queues_serviceClosed.finishService v _ (queuesCoherent_of_queues h rfl rfl)

theorem queues_eventClosed : EventClosed QueuesCoherent where
  toBlockClosed := queues_blockClosed
  pending _ h := queuesCoherent_of_queues h rfl rfl
  reset x _ := by
    rw [hardReset_eq]
    exact resets_coherent rfl rfl
  restart _ := by
    rw [softReset_eq]
    exact resets_coherent rfl rfl
  arrival p f h := arrive_coherent h p f
  move q h := setQueue_coherent h q (move_coherent (queuesCoherent_iff.mp h q))
  start p h := startAttempt_coherent h p
  success p h := endInSuccess_coherent h p
  failure p h := endInFailure_coherent h p
  loss p h := endInLoss_coherent h p
  recovery p _ h := settleDrained_coherent (setPort_coherent h p _) p
  validated v _ h := completeValidation_coherent h v
  stored v equal _ h := completeStore_coherent h v equal
  loaded h := queues_serviceClosed.serveWaiting (queues_blockClosed.tablesTaken (queuesCoherent_of_queues h rfl rfl))
  tick h := queuesCoherent_of_queues h rfl rfl

/-- Settles O57: every event keeps the law of both queues. -/
theorem everyStepKeepsTheQueueLaw : Obligations.EveryStepKeepsTheQueueLaw :=
  fun _ _ h e => queues_eventClosed.step h e

end Sys2Proof.Proofs.Queues

/-! PROOF. The accounts of the forwarding queues: every record that enters a queue leaves it once, so that the difference of the
counters stays as it is (R30, R49). -/

namespace Sys2Proof.Proofs.Accounts

open Sys2Proof.Machine Sys2Proof.Safety Sys2Proof.Proofs.Closure Sys2Proof.Proofs.Attempts

variable {s t : State} {u v : Queue} {q : QueueId} {p : Port}

/-! ## One queue (R26 to R34) -/

theorem balance_of_same (entered : v.entered = u.entered) (transmitted : v.transmitted = u.transmitted)
    (abandoned : v.abandoned = u.abandoned) (flushed : v.flushed = u.flushed) (held : v.held = u.held) :
    balance v = balance u := by
  simp only [balance, entered, transmitted, abandoned, flushed, held]

theorem one_count : BitVec.ofNat 32 1 = (1 : BitVec 32) := rfl

theorem balance_enter (u : Queue) (r : FrameRecord) :
    balance { u with body := u.body ++ [r], entered := u.entered + 1 } = balance u := by
  have held : Queue.held { u with body := u.body ++ [r], entered := u.entered + 1 } = u.held + 1 := by
    simp only [Queue.held, List.length_append, List.length_singleton]
    omega
  simp only [balance, held, BitVec.ofNat_add, one_count]
  ring

theorem held_occupied {r : FrameRecord} (h : u.out = some r) : u.held = u.body.length + 1 := by
  simp [Queue.held, h]

theorem balance_transmit (h : u.out.isSome) :
    balance { u with out := none, transmitted := u.transmitted + 1 } = balance u := by
  obtain ⟨r, out⟩ := Option.isSome_iff_exists.mp h
  simp only [balance, held_occupied out, BitVec.ofNat_add, one_count]
  simp only [Queue.held, Option.isSome_none, Bool.false_eq_true, if_false, add_zero]
  ring

theorem balance_abandon (h : u.out.isSome) :
    balance { u with out := none, abandoned := u.abandoned + 1 } = balance u := by
  obtain ⟨r, out⟩ := Option.isSome_iff_exists.mp h
  simp only [balance, held_occupied out, BitVec.ofNat_add, one_count]
  simp only [Queue.held, Option.isSome_none, Bool.false_eq_true, if_false, add_zero]
  ring

theorem balance_move (u : Queue) : balance u.move = balance u := by
  cases out : u.out with
  | some r => rw [Queue.move_occupied out]
  | none =>
    cases body : u.body with
    | nil => rw [Queue.move_empty body]
    | cons r rest =>
      rw [Queue.move_takes out body]
      exact balance_of_same rfl rfl rfl rfl (by simp [Queue.held, out, body])

/-! ## The queue in the state -/

/-- The queue's account is the given one. -/
def Balanced (q : QueueId) (b : Count) (s : State) : Prop := balance (s.queue q) = b

variable {b : Count}

theorem balanced_of_queues (h : Balanced q b s) (bc : t.bc = s.bc) (cb : t.cb = s.cb) : Balanced q b t := by
  unfold Balanced at h ⊢
  rw [← h]
  cases q
  · exact congrArg balance bc
  · exact congrArg balance cb

theorem setQueue_balanced (h : Balanced q b s) (x : QueueId) (same : balance u = balance (s.queue x)) :
    Balanced q b (s.setQueue x u) := by
  unfold Balanced at h ⊢
  rw [← h]
  cases q <;> cases x <;> first | exact same | rfl

theorem setPort_balanced (h : Balanced q b s) (p : Port) (r : PortRec) : Balanced q b (s.setPort p r) :=
  balanced_of_queues h (State.setPort_bc s p r) (State.setPort_cb s p r)

theorem settleDrained_balanced (h : Balanced q b s) (p : Port) : Balanced q b (settleDrained p s) := by
  unfold settleDrained
  split
  · exact setPort_balanced h p _
  · exact h

theorem balanced_blockClosed : BlockClosed (Balanced q b) where
  ctl _ h := balanced_of_queues h rfl rfl
  ceil _ h := balanced_of_queues h rfl rfl
  told _ _ h := balanced_of_queues h rfl rfl
  placed _ h := balanced_of_queues h rfl rfl
  stale h := balanced_of_queues h rfl rfl
  slots _ h := balanced_of_queues h rfl rfl
  hits _ h := balanced_of_queues h rfl rfl
  tank _ h := balanced_of_queues h rfl rfl
  level _ h := balanced_of_queues h rfl rfl
  status _ h := balanced_of_queues h rfl rfl
  timers _ _ h := balanced_of_queues h rfl rfl

theorem offer_balanced (h : Balanced q b s) (x : QueueId) (r : FrameRecord) : Balanced q b (offer x r s) := by
  unfold offer
  dsimp only
  split
  · exact setQueue_balanced h x rfl
  · split
    · exact setQueue_balanced h x
        (balance_of_same rfl rfl rfl rfl (by simp only [Queue.held, supersedeIn_length]))
    · split
      · have full (n : Count) : Balanced q b (s.setQueue x { s.queue x with droppedFull := n }) :=
          setQueue_balanced h x rfl
        exact balanced_of_queues (full _) rfl rfl
      · exact setQueue_balanced h x (balance_enter _ r)

/-! ## Arrivals (R4, R5) -/

/-- Bringing a frame into form does not decide whether it is a management request (R5). -/
theorem diverts_deliver (s : State) (p : Port) (f : Frame) : s.diverts p (deliver f) = s.diverts p f := by
  unfold State.diverts deliver
  have other : (Format.standard == Format.extended) = false := rfl
  cases f.format <;> simp [other]

theorem arrive_balanced (h : Balanced q b s) {f : Frame} (plain : s.diverts p f = false) :
    Balanced q b (arrive p f s) := by
  unfold arrive
  simp only [plain, Bool.false_eq_true, if_false]
  split
  · exact balanced_blockClosed.classify p f (fun r _ h => offer_balanced h _ r) (setPort_balanced h p _)
  · exact h

/-! ## Attempts (R31 to R35) -/

theorem startAttempt_balanced (h : Balanced q b s) (p : Port) : Balanced q b (startAttempt p s) := by
  unfold startAttempt
  split
  · exact h
  · split
    · exact h
    · dsimp only
      split
      · exact h
      · exact setPort_balanced (balanced_blockClosed.rewriteEffect _ h) p _
    · split
      · exact h
      · exact setPort_balanced h p _

theorem endInLoss_balanced (h : Balanced q b s) (p : Port) : Balanced q b (endInLoss p s) := by
  cases attempt : (s.port p).attempt with
  | none => rwa [endInLoss_idle attempt]
  | some a =>
    rw [endInLoss_attempt attempt]
    exact balanced_of_queues (setPort_balanced h p _) rfl rfl

theorem recordSuccess_balanced (h : Balanced q b s) (out : (s.queue (queueToward p)).out.isSome) :
    Balanced q b (recordSuccess p s) :=
  settleDrained_balanced (setQueue_balanced (setPort_balanced h p _) _
    (by rw [State.setPort_queue]; exact balance_transmit out)) p

theorem recordFailure_balanced (h : Balanced q b s) (p : Port) : Balanced q b (recordFailure p s) := by
  unfold recordFailure
  dsimp only
  split
  · exact h
  · rename_i r out
    split
    · exact setQueue_balanced h _ (balance_of_same rfl rfl rfl rfl (by simp [Queue.held, out]))
    · exact balanced_of_queues (setQueue_balanced h _ (balance_abandon (by rw [out]; rfl))) rfl rfl

theorem localFailure_balanced (h : Balanced q b s) (p : Port) (src : Source) : Balanced q b (localFailure p src s) := by
  unfold localFailure
  split
  · exact h
  · dsimp only
    split
    · exact balanced_of_queues h rfl rfl
    · exact balanced_of_queues (setPort_balanced h p _) rfl rfl

theorem checkBusFault_balanced (h : Balanced q b s) (p : Port) : Balanced q b (checkBusFault p s) := by
  unfold checkBusFault
  dsimp only
  split
  · exact balanced_of_queues (setPort_balanced h p _) rfl rfl
  · exact h

/-- No request is held in the intake. -/
def IntakeEmpty (s : State) : Prop := s.engine.bufX = none ∧ s.engine.bufY = none

theorem intakeEmpty_of_engine (h : IntakeEmpty s) (same : t.engine = s.engine) : IntakeEmpty t := by
  unfold IntakeEmpty
  rwa [same]

theorem serveWaiting_emptyIntake (h : IntakeEmpty s) : serveWaiting s = s := serveWaiting_idle s h.1 h.2

theorem serveIfFreed_emptyIntake (h : IntakeEmpty s) (src : Source) : serveIfFreed src s = s := by
  unfold serveIfFreed
  split
  · rw [serveWaiting_emptyIntake h, ite_self]
  all_goals rfl

theorem tellSuccess_balanced (h : Balanced q b s) (idle : IntakeEmpty s) (running : s.engine.restart = none)
    (src : Source) (stale : Bool) : Balanced q b (tellSuccess src stale s) := by
  unfold tellSuccess
  rw [running]
  cases src with
  | lockout => exact balanced_blockClosed.onLockoutSuccess stale h
  | response =>
    dsimp only
    rwa [serveWaiting_emptyIntake idle]
  | _ => exact h

theorem localFailure_engine (p : Port) (src : Source) (s : State) : (localFailure p src s).engine = s.engine := by
  unfold localFailure
  split
  · rfl
  · dsimp only
    split
    · rfl
    · simp

theorem checkBusFault_engine (p : Port) (s : State) : (checkBusFault p s).engine = s.engine := by
  unfold checkBusFault
  dsimp only
  split <;> simp

theorem endInSuccess_balanced (h : Balanced q b s) (idle : IntakeEmpty s) (running : s.engine.restart = none)
    (out : ∀ a, (s.port p).attempt = some a → a.source = .output → (s.queue (queueToward p)).out.isSome) :
    Balanced q b (endInSuccess p s) := by
  have sent : Balanced q b (succeeded p s) := setPort_balanced h p _
  rcases attempt_cases s p with free | ⟨a, attempt, src⟩ | ⟨a, attempt, src⟩
  · rwa [endInSuccess_idle free]
  · rw [endInSuccess_output attempt src]
    exact recordSuccess_balanced sent (by unfold succeeded; rw [State.setPort_queue]; exact out a attempt src)
  · rw [endInSuccess_local attempt src]
    refine tellSuccess_balanced (settleDrained_balanced ?_ p) (intakeEmpty_of_engine idle ?_) ?_ _ _
    · exact balanced_of_queues (setPort_balanced sent p _) rfl rfl
    · simp [succeeded]
    · simpa [succeeded] using running

theorem endInFailure_balanced (h : Balanced q b s) (idle : IntakeEmpty s) (p : Port) :
    Balanced q b (endInFailure p s) := by
  have failed : Balanced q b (failed p s) := setPort_balanced h p _
  rcases attempt_cases s p with free | ⟨a, attempt, src⟩ | ⟨a, attempt, src⟩
  · rwa [endInFailure_idle free]
  · rw [endInFailure_output attempt src]
    exact settleDrained_balanced (checkBusFault_balanced (recordFailure_balanced failed p) p) p
  · rw [endInFailure_local attempt src, serveIfFreed_emptyIntake]
    · exact settleDrained_balanced (checkBusFault_balanced (localFailure_balanced failed p _) p) p
    · exact intakeEmpty_of_engine idle (by simp [checkBusFault_engine, localFailure_engine, Attempts.failed])

/-- Settles O22: by the command, each keeping the account of every queue. -/
theorem queueAccountsStayBalanced : Obligations.QueueAccountsStayBalanced := by
  unfold Obligations.QueueAccountsStayBalanced
  intro s t c q command bufX bufY running plain out e
  have start : Balanced q (balance (s.queue q)) s := rfl
  rcases command with ⟨p, rfl | rfl | rfl | rfl⟩ | ⟨p, f, rfl⟩ | rfl <;> cases e
  · exact endInSuccess_balanced start ⟨bufX, bufY⟩ running (out p)
  · exact endInFailure_balanced start ⟨bufX, bufY⟩ p
  · exact endInLoss_balanced start p
  · exact startAttempt_balanced start p
  · exact arrive_balanced start ((diverts_deliver s p f).trans (plain p f rfl))
  · exact setQueue_balanced start q (balance_move _)

end Sys2Proof.Proofs.Accounts

/-! PROOF. The Management Engine's laws: no request waits while a service may begin, since an event's two services find a place or
empty the buffers, and a claimed place is filled by its own answer alone (R165, R168). -/

namespace Sys2Proof.Proofs.EngineLaws

open Sys2Proof.Machine Sys2Proof.Safety Sys2Proof.Proofs.Closure Sys2Proof.Proofs.Attempts

variable {s t : State} {p : Port}

/-! ## What the laws speak of -/

/-- The two states agree in all that the service of requests depends on. -/
structure SameService (s t : State) : Prop where
  bufX : t.engine.bufX = s.engine.bufX
  bufY : t.engine.bufY = s.engine.bufY
  inService : t.engine.inService = s.engine.inService
  restart : t.engine.restart.isNone = s.engine.restart.isNone
  origin : t.tables.origin = s.tables.origin
  occupied : ∀ p, (t.places.resp p).isNone = (s.places.resp p).isNone

theorem SameService.refl (s : State) : SameService s s := ⟨rfl, rfl, rfl, rfl, rfl, fun _ => rfl⟩

theorem SameService.of_eq (engine : t.engine = s.engine) (origin : t.tables.origin = s.tables.origin)
    (resp1 : t.places.resp1 = s.places.resp1) (resp2 : t.places.resp2 = s.places.resp2) : SameService s t := by
  refine ⟨by rw [engine], by rw [engine], by rw [engine], by rw [engine], origin, fun p => ?_⟩
  cases p
  · exact congrArg Option.isNone resp1
  · exact congrArg Option.isNone resp2

theorem SameService.trans {u : State} (h : SameService s t) (g : SameService t u) : SameService s u :=
  ⟨g.bufX.trans h.bufX, g.bufY.trans h.bufY, g.inService.trans h.inService, g.restart.trans h.restart,
   g.origin.trans h.origin, fun p => (g.occupied p).trans (h.occupied p)⟩

theorem freeResp_isSome_iff (pl : Places) : pl.freeResp.isSome ↔ ∃ p, (pl.resp p).isNone := by
  constructor
  · intro h
    unfold Places.freeResp at h
    split at h
    · exact ⟨.first, ‹_›⟩
    · split at h
      · exact ⟨.second, ‹_›⟩
      · cases h
  · rintro ⟨p, free⟩
    unfold Places.freeResp
    split
    · rfl
    · cases p
      · exact absurd free ‹_›
      · rw [if_pos (show pl.resp2.isNone from free)]
        rfl

theorem freeResp_free {pl : Places} {p : RespPlace} (h : pl.freeResp = some p) : pl.resp p = none := by
  unfold Places.freeResp at h
  split at h
  · cases h
    exact Option.isNone_iff_eq_none.mp ‹_›
  · split at h
    · cases h
      exact Option.isNone_iff_eq_none.mp ‹_›
    · cases h

/-- The place that an ACTIVATE has claimed holds no frame (R168). -/
def Claimed (s : State) : Prop := ∀ v, s.engine.inService = some v → s.places.resp v.place = none

theorem Claimed.of_same (h : Claimed s) (same : SameService s t) : Claimed t := by
  intro v served
  have free := h v (same.inService.symm.trans served)
  rw [← Option.isNone_iff_eq_none, same.occupied, free]
  rfl

theorem claimed_of_idle (h : s.engine.inService = none) : Claimed s := fun v served => by rw [h] at served; cases served

theorem coherent_of_same (h : EngineCoherent s) (same : SameService s t) : EngineCoherent t where
  eager may free := by
    have may' : s.mayServe = true := by
      simpa only [State.mayServe, same.inService, same.restart, same.origin] using may
    have free' : s.places.freeResp.isSome := by
      rw [freeResp_isSome_iff] at free ⊢
      simpa only [same.occupied] using free
    rw [same.bufX, same.bufY]
    exact h.eager may' free'
  claim := Claimed.of_same h.claim same

theorem coherent_of_notServing (claim : Claimed s) (h : s.mayServe = false) : EngineCoherent s :=
  ⟨fun may => absurd may (by rw [h]; decide), claim⟩

theorem coherent_of_empty (bufX : s.engine.bufX = none) (bufY : s.engine.bufY = none) (claim : Claimed s) :
    EngineCoherent s := ⟨fun _ _ => ⟨bufX, bufY⟩, claim⟩

/-! ## The services of an event (R165) -/

/-- The number of requests held in the intake. -/
def held (g : Engine) : Nat := (if g.bufX.isSome then 1 else 0) + if g.bufY.isSome then 1 else 0

theorem held_le_two (g : Engine) : held g ≤ 2 := by
  unfold held
  split <;> split <;> decide

theorem empty_of_held {g : Engine} (h : held g = 0) : g.bufX = none ∧ g.bufY = none := by
  unfold held at h
  constructor
  · cases x : g.bufX
    · rfl
    · simp [x] at h
  · cases y : g.bufY
    · rfl
    · simp [y] at h

theorem oldest_none {g : Engine} (h : g.oldest = none) : g.bufX = none ∧ g.bufY = none := by
  unfold Engine.oldest at h
  split at h
  · exact ⟨‹_›, ‹_›⟩
  · cases h
  · cases h
  · split at h <;> cases h

/-- Taking the oldest request out leaves one fewer (R165). -/
theorem held_setBuf_oldest {g : Engine} {b : Buffer} {f : Frame} (h : g.oldest = some (b, f)) :
    held (g.setBuf b none) + 1 = held g := by
  unfold Engine.oldest at h
  cases x : g.bufX <;> cases y : g.bufY <;> simp only [x, y] at h
  · cases h
  · cases h
    simp [held, Engine.setBuf, x, y]
  · cases h
    simp [held, Engine.setBuf, x, y]
  · split at h <;> cases h <;> simp [held, Engine.setBuf, x, y]

theorem held_serveRequest (f : Frame) (place : RespPlace) (s : State) :
    held (serveRequest f place s).engine = held s.engine := by
  obtain ⟨bufX, bufY⟩ := serveRequest_buffers s f place
  simp only [held, bufX, bufY]

theorem settleDrained_service (p : Port) (s : State) : SameService s (settleDrained p s) := by
  unfold settleDrained
  split
  · exact .of_eq (by simp) (by simp) (by simp) (by simp)
  · exact .refl s

theorem setPort_service (p : Port) (r : PortRec) (s : State) : SameService s (s.setPort p r) :=
  .of_eq (by simp) (by simp) (by simp) (by simp)

theorem setQueue_service (q : QueueId) (u : Queue) (s : State) : SameService s (s.setQueue q u) :=
  .of_eq (by simp) (by simp) (by simp) (by simp)

/-- A CUT keeps the RESPONSE places (R45). -/
theorem cutPort_service (p : Port) (s : State) : SameService s (cutPort p s) := by
  refine (setPort_service p _ s).trans ((setQueue_service _ _ _).trans (.of_eq rfl rfl ?_ ?_))
  all_goals cases p <;> simp [cutPort, Places.cut]

theorem servePortControl_service (d : List Byte) (s : State) : SameService s (servePortControl d s).1 := by
  unfold servePortControl
  split
  · exact .refl s
  · split
    · unfold serveQuiesce
      dsimp only
      split
      · exact .refl s
      · split
        · exact (setPort_service _ _ s).trans (settleDrained_service _ _)
        · exact .refl s
        · exact .refl s
        · exact setPort_service _ _ s
    · unfold serveCut
      split
      · exact .refl s
      · exact cutPort_service _ s
    · unfold serveResume
      dsimp only
      split
      · exact .refl s
      · exact setPort_service _ _ s
      · exact setPort_service _ _ s
      · exact .refl s
    · exact .refl s

/-- With no ACTIVATE in service a request is answered, or it is an ACTIVATE that claims its place (R165, R168). -/
theorem serveKind_inService (f : Frame) (place : RespPlace) (idle : s.engine.inService = none) :
    (serveKind f place s).1.engine.inService = none
      ∨ (serveKind f place s).2 = none ∧ (serveKind f place s).1.places = s.places
        ∧ (serveKind f place s).1.engine.inService = some ⟨f, place, .validating⟩ := by
  unfold serveKind
  dsimp only
  split
  case h_5 =>
    unfold serveWriteTable
    dsimp only
    split
    · exact .inl idle
    · split <;> exact .inl idle
  case h_7 =>
    unfold serveActivate
    split
    · exact .inl idle
    · split
      · exact .inr ⟨rfl, rfl, rfl⟩
      · exact .inl idle
  case h_9 => exact .inl ((servePortControl_service _ s).inService.trans idle)
  case h_11 => unfold serveClearCounters; split <;> exact .inl idle
  case h_15 => unfold serveRestart; split <;> exact .inl idle
  all_goals exact .inl idle

theorem serveRequest_claimed (f : Frame) {place : RespPlace} (idle : s.engine.inService = none)
    (free : s.places.resp place = none) : Claimed (serveRequest f place s) := by
  have kind := serveKind_inService f place idle
  unfold serveRequest
  split
  · exact claimed_of_idle idle
  · split
    · rename_i t r e
      simp only [e] at kind
      exact claimed_of_idle (kind.resolve_right fun h => by cases h.1)
    · rename_i t e
      simp only [e] at kind
      rcases kind with idle' | ⟨-, places, served⟩
      · exact claimed_of_idle idle'
      · intro v h
        cases served.symm.trans h
        rw [places]
        exact free

/-- A next service is the oldest request's, or there is none to begin (R165). -/
theorem serveNext_cases (s : State) :
    (serveNext s = s ∧ (s.mayServe = true → s.places.freeResp.isSome → s.engine.bufX = none ∧ s.engine.bufY = none))
      ∨ ∃ b f place, s.engine.oldest = some (b, f) ∧ s.places.freeResp = some place ∧ s.mayServe = true
        ∧ serveNext s = serveRequest f place { s with engine := s.engine.setBuf b none } := by
  unfold serveNext
  split
  · rename_i b f place oldest free
    split
    · exact .inr ⟨b, f, place, oldest, free, ‹_›, rfl⟩
    · exact .inl ⟨rfl, fun may => absurd may ‹_›⟩
  · rename_i stuck
    refine .inl ⟨rfl, fun _ free => ?_⟩
    obtain ⟨place, free⟩ := Option.isSome_iff_exists.mp free
    cases oldest : s.engine.oldest with
    | none => exact oldest_none oldest
    | some x => exact absurd free (stuck x.1 x.2 place oldest)

theorem mayServe_idle (h : s.mayServe = true) : s.engine.inService = none := by
  simp only [State.mayServe, Bool.and_eq_true, Option.isNone_iff_eq_none] at h
  exact h.1.1

theorem serveNext_claimed (h : Claimed s) : Claimed (serveNext s) := by
  rcases serveNext_cases s with ⟨same, -⟩ | ⟨b, f, place, -, free, may, served⟩
  · rwa [same]
  · rw [served]
    refine serveRequest_claimed f ?_ (freeResp_free free)
    cases b <;> exact mayServe_idle may

/-- A service leaves one request fewer in the intake, and where none begins no request waits for one. -/
theorem serveNext_progress (h : Claimed s) :
    (serveNext s = s ∧ EngineCoherent s) ∨ held (serveNext s).engine + 1 = held s.engine := by
  rcases serveNext_cases s with ⟨same, eager⟩ | ⟨b, f, place, oldest, -, -, served⟩
  · exact .inl ⟨same, eager, h⟩
  · rw [served, held_serveRequest]
    exact .inr (held_setBuf_oldest oldest)

theorem serveWaiting_coherent (h : Claimed s) : EngineCoherent (serveWaiting s) := by
  have once := serveNext_claimed h
  unfold serveWaiting
  rcases serveNext_progress h with ⟨same, coherent⟩ | first
  · rwa [same, same]
  · rcases serveNext_progress once with ⟨same, coherent⟩ | second
    · rwa [same]
    · have none_left : held (serveNext (serveNext s)).engine = 0 := by have := held_le_two s.engine; omega
      obtain ⟨bufX, bufY⟩ := empty_of_held none_left
      exact coherent_of_empty bufX bufY (serveNext_claimed once)

theorem finishService_coherent (v : Service) (r : Reply) (s : State) : EngineCoherent (finishService v r s) :=
  serveWaiting_coherent (claimed_of_idle rfl)

/-! ## Events -/

theorem engine_blockClosed : BlockClosed EngineCoherent where
  ctl _ h := coherent_of_same h (.of_eq rfl rfl rfl rfl)
  ceil _ h := coherent_of_same h (.of_eq rfl rfl rfl rfl)
  told _ _ h := coherent_of_same h (.of_eq rfl rfl rfl rfl)
  placed _ h := coherent_of_same h (.of_eq rfl rfl rfl rfl)
  stale h := coherent_of_same h (.of_eq rfl rfl rfl rfl)
  slots _ h := coherent_of_same h (.of_eq rfl rfl rfl rfl)
  hits _ h := coherent_of_same h (.of_eq rfl rfl rfl rfl)
  tank _ h := coherent_of_same h (.of_eq rfl rfl rfl rfl)
  level _ h := coherent_of_same h (.of_eq rfl rfl rfl rfl)
  status _ h := coherent_of_same h (.of_eq rfl rfl rfl rfl)
  timers _ _ h := coherent_of_same h ⟨rfl, rfl, rfl, rfl, rfl, fun _ => rfl⟩

theorem sameService_blockClosed (s : State) : BlockClosed (SameService s) where
  ctl _ h := h.trans (.of_eq rfl rfl rfl rfl)
  ceil _ h := h.trans (.of_eq rfl rfl rfl rfl)
  told _ _ h := h.trans (.of_eq rfl rfl rfl rfl)
  placed _ h := h.trans (.of_eq rfl rfl rfl rfl)
  stale h := h.trans (.of_eq rfl rfl rfl rfl)
  slots _ h := h.trans (.of_eq rfl rfl rfl rfl)
  hits _ h := h.trans (.of_eq rfl rfl rfl rfl)
  tank _ h := h.trans (.of_eq rfl rfl rfl rfl)
  level _ h := h.trans (.of_eq rfl rfl rfl rfl)
  status _ h := h.trans (.of_eq rfl rfl rfl rfl)
  timers _ _ h := h.trans ⟨rfl, rfl, rfl, rfl, rfl, fun _ => rfl⟩

theorem offer_service (q : QueueId) (r : FrameRecord) (s : State) : SameService s (offer q r s) := by
  unfold offer
  dsimp only
  split
  · exact setQueue_service q _ s
  · split
    · exact setQueue_service q _ s
    · split
      · exact (setQueue_service q _ s).trans (.of_eq rfl rfl rfl rfl)
      · exact setQueue_service q _ s

theorem intake_coherent (f : Frame) (h : EngineCoherent s) : EngineCoherent (intake f s) := by
  unfold intake
  split
  · rename_i b _
    refine serveWaiting_coherent ?_
    cases b <;> exact h.claim
  · unfold busyResponder
    split
    · exact coherent_of_same h ⟨rfl, rfl, rfl, rfl, rfl, fun _ => rfl⟩
    · exact coherent_of_same h (.of_eq rfl rfl rfl rfl)

theorem arrive_coherent (f : Frame) (h : EngineCoherent s) : EngineCoherent (arrive p f s) := by
  unfold arrive
  dsimp only
  split
  · split
    · exact intake_coherent f (coherent_of_same h (setPort_service p _ s))
    · exact engine_blockClosed.classify p f (fun r _ h => coherent_of_same h (offer_service _ r _))
        (coherent_of_same h (setPort_service p _ s))
  · exact h

theorem startAttempt_coherent (h : EngineCoherent s) : EngineCoherent (startAttempt p s) := by
  unfold startAttempt
  split
  · exact h
  · split
    · exact h
    · split
      · exact h
      · exact coherent_of_same (engine_blockClosed.rewriteEffect _ h) (setPort_service p _ _)
    · split
      · exact h
      · exact coherent_of_same h (setPort_service p _ s)

/-! ## The ends of an attempt (R33 to R37, R165) -/

theorem endAttempt_resp (pl : Places) (src : Source) (refused : Bool) (p : RespPlace) :
    (pl.endAttempt src refused).resp p = pl.resp p := by
  cases src <;> rfl

theorem resp_setResp (pl : Places) (p q : RespPlace) (f : Option LocalFrame) :
    (pl.setResp p f).resp q = if p = q then f else pl.resp q := by
  cases p <;> cases q <;> rfl

theorem recordSuccess_service (p : Port) (s : State) : SameService s (recordSuccess p s) :=
  (setPort_service p _ s).trans ((setQueue_service _ _ _).trans (settleDrained_service p _))

theorem hardReset_coherent (x : Straps) (s : State) : EngineCoherent (hardReset x s) := by
  rw [Resets.hardReset_eq]
  exact coherent_of_empty rfl rfl (claimed_of_idle rfl)

theorem softReset_coherent (s : State) : EngineCoherent (softReset s) := by
  rw [Resets.softReset_eq]
  exact coherent_of_empty rfl rfl (claimed_of_idle rfl)

/-- What the originating block does at a success keeps the laws; a freed RESPONSE place may leave a request waiting until
then. -/
theorem tellSuccess_coherent (src : Source) (stale : Bool) (claim : Claimed s)
    (h : (∀ pl, src ≠ .response pl) → EngineCoherent s) : EngineCoherent (tellSuccess src stale s) := by
  cases src with
  | response q =>
    unfold tellSuccess
    dsimp only
    split
    · split
      · exact softReset_coherent s
      · exact serveWaiting_coherent claim
    · exact serveWaiting_coherent claim
  | lockout => exact engine_blockClosed.onLockoutSuccess stale (h (by simp))
  | _ => exact h (by simp)

/-- A frame that leaves its place empties no place but its own. -/
theorem setAt_none_claimed (h : Claimed s) (same : t.engine = s.engine) (src : Source) (refused : Bool)
    (places : t.places = (s.places.setAt src none).endAttempt src refused) : Claimed t := by
  intro v served
  rw [places, endAttempt_resp]
  have free := h v ((congrArg Engine.inService same).symm.trans served)
  cases src with
  | response q =>
    refine (resp_setResp s.places q v.place none).trans ?_
    rw [free, ite_self]
  | _ => exact free

theorem setAt_service {src : Source} (f : Option LocalFrame) (engine : t.engine = s.engine)
    (origin : t.tables.origin = s.tables.origin) (refused : Bool)
    (places : t.places = (s.places.setAt src f).endAttempt src refused)
    (kept : ∀ q, src = .response q → f.isNone = (s.places.resp q).isNone) : SameService s t := by
  refine ⟨by rw [engine], by rw [engine], by rw [engine], by rw [engine], origin, fun q => ?_⟩
  rw [places, endAttempt_resp]
  cases src with
  | response r =>
    refine (congrArg Option.isNone (resp_setResp s.places r q f)).trans ?_
    split
    · rename_i here
      subst here
      exact kept r rfl
    · rfl
  | _ => rfl

theorem endInSuccess_coherent (h : EngineCoherent s) (p : Port) : EngineCoherent (endInSuccess p s) := by
  have done : EngineCoherent (succeeded p s) := coherent_of_same h (setPort_service p _ s)
  rcases attempt_cases s p with free | ⟨a, attempt, src⟩ | ⟨a, attempt, src⟩
  · rwa [endInSuccess_idle free]
  · rw [endInSuccess_output attempt src]
    exact coherent_of_same done (recordSuccess_service p _)
  · rw [endInSuccess_local attempt src, localSuccess_eq]
    have engine : (sent p a.source (succeeded p s)).engine = (succeeded p s).engine := State.setPort_engine _ p _
    have tables : (sent p a.source (succeeded p s)).tables = (succeeded p s).tables := State.setPort_tables _ p _
    exact tellSuccess_coherent _ _
      (Claimed.of_same (setAt_none_claimed done.claim engine a.source _ rfl) (settleDrained_service p _))
      fun other => coherent_of_same done
        ((setAt_service none engine (by rw [tables]) _ rfl fun q here => absurd here (other q)).trans
          (settleDrained_service p _))

/-- A failure keeps the frame in its place, or abandons it (R34): a RESPONSE place is freed only where none is left there. -/
theorem localFailure_service (p : Port) (src : Source) (s : State) :
    SameService s (localFailure p src s)
      ∨ (∃ q, src = .response q ∧ ((localFailure p src s).places.resp q).isNone)
        ∧ (Claimed s → Claimed (localFailure p src s)) := by
  cases found : s.places.at src with
  | none =>
    rw [localFailure_absent found]
    exact .inl (.refl s)
  | some f =>
    by_cases few : f.attempts + 1 < 8
    · rw [localFailure_retried found few]
      refine .inl (setAt_service _ rfl rfl _ rfl fun q here => ?_)
      subst here
      exact (congrArg Option.isNone (show s.places.resp q = some f from found)).symm
    · rw [localFailure_abandoned found few]
      have engine : (abandoned p src s).engine = s.engine := State.setPort_engine s p _
      have tables : (abandoned p src s).tables = s.tables := State.setPort_tables s p _
      by_cases response : ∃ q, src = .response q
      · obtain ⟨q, rfl⟩ := response
        refine .inr ⟨⟨q, rfl, ?_⟩, fun h => setAt_none_claimed h engine (.response q) (s.port p).refusesFrames rfl⟩
        exact congrArg Option.isNone ((resp_setResp s.places q q none).trans (if_pos rfl))
      · exact .inl (setAt_service (src := src) none engine (congrArg TableMemory.origin tables) (s.port p).refusesFrames rfl
          fun q here => absurd ⟨q, here⟩ response)

theorem checkBusFault_service (p : Port) (s : State) : SameService s (checkBusFault p s) := by
  unfold checkBusFault
  dsimp only
  split
  · exact (setPort_service p _ s).trans (.of_eq rfl rfl rfl rfl)
  · exact .refl s

theorem recordFailure_service (p : Port) (s : State) : SameService s (recordFailure p s) := by
  unfold recordFailure
  dsimp only
  split
  · exact .refl s
  · split
    · exact setQueue_service _ _ s
    · exact (setQueue_service _ _ s).trans (.of_eq rfl rfl rfl rfl)

theorem serveIfFreed_coherent (src : Source) (h : EngineCoherent s) : EngineCoherent (serveIfFreed src s) := by
  unfold serveIfFreed
  split
  · split
    · exact serveWaiting_coherent h.claim
    · exact h
  all_goals exact h

theorem endInFailure_coherent (h : EngineCoherent s) (p : Port) : EngineCoherent (endInFailure p s) := by
  have down : EngineCoherent (failed p s) := coherent_of_same h (setPort_service p _ s)
  have settles (t : State) : SameService t (settleDrained p (checkBusFault p t)) :=
    (checkBusFault_service p t).trans (settleDrained_service p _)
  rcases attempt_cases s p with free | ⟨a, attempt, src⟩ | ⟨a, attempt, src⟩
  · rwa [endInFailure_idle free]
  · rw [endInFailure_output attempt src]
    exact coherent_of_same down ((recordFailure_service p _).trans (settles _))
  · rw [endInFailure_local attempt src]
    rcases localFailure_service p a.source (failed p s) with same | ⟨⟨q, here, freed⟩, claim⟩
    · exact serveIfFreed_coherent _ (coherent_of_same down (same.trans (settles _)))
    · have served : serveIfFreed a.source (settleDrained p (checkBusFault p (localFailure p a.source (failed p s))))
          = serveWaiting (settleDrained p (checkBusFault p (localFailure p a.source (failed p s)))) := by
        rw [here] at freed ⊢
        exact if_pos (((settles _).occupied q).trans freed)
      rw [served]
      exact serveWaiting_coherent (Claimed.of_same (claim down.claim) (settles _))

theorem endInLoss_coherent (h : EngineCoherent s) (p : Port) : EngineCoherent (endInLoss p s) := by
  cases attempt : (s.port p).attempt with
  | none => rwa [endInLoss_idle attempt]
  | some a =>
    rw [endInLoss_attempt attempt]
    exact coherent_of_same h ⟨by simp, by simp, by simp, by simp, by simp, fun q => by rw [endAttempt_resp]⟩

/-! ## Tables and the clock -/

theorem beginStore_coherent {v : Service} (free : s.places.resp v.place = none) : EngineCoherent (beginStore v s) :=
  coherent_of_notServing (fun w served => by cases served; exact free) rfl

theorem tablesTaken_service (s : State) : SameService s (tablesTaken s) :=
  (sameService_blockClosed s).tablesTaken (.refl s)

theorem completeValidation_coherent {v : Service} (served : s.engine.inService = some v) (h : EngineCoherent s) :
    EngineCoherent (completeValidation v s) := by
  have kept : (activationCopy s).places.resp v.place = none := by
    rw [← Option.isNone_iff_eq_none]
    refine ((tablesTaken_service _).occupied v.place).trans ?_
    rw [Option.isNone_iff_eq_none]
    exact h.claim v served
  unfold completeValidation
  split
  · exact finishService_coherent _ _ _
  · split
    · exact finishService_coherent _ _ _
    · split
      · exact beginStore_coherent kept
      · exact finishService_coherent _ _ _

theorem completeStore_coherent (v : Service) (equal : Bool) (s : State) : EngineCoherent (completeStore v equal s) := by
  unfold completeStore
  split <;> exact finishService_coherent _ _ _

theorem completeLoad_coherent (h : EngineCoherent s) : EngineCoherent (completeLoad s) := by
  have claim : Claimed { s with tables := { s.tables with
    active := s.tables.store.image, shadow := s.tables.store.image, origin := .loaded } } := h.claim
  exact serveWaiting_coherent (claim.of_same (tablesTaken_service _))

theorem tick_coherent (h : EngineCoherent s) : EngineCoherent (tick s) :=
  coherent_of_same h ⟨rfl, rfl, rfl, Option.isNone_map, rfl, fun _ => rfl⟩

theorem engine_eventClosed : EventClosed EngineCoherent where
  toBlockClosed := engine_blockClosed
  pending _ h := coherent_of_same h (.of_eq rfl rfl rfl rfl)
  reset x _ := hardReset_coherent x _
  restart _ := softReset_coherent _
  arrival _ f h := arrive_coherent f h
  move q h := coherent_of_same h (setQueue_service q _ _)
  start _ h := startAttempt_coherent h
  success p h := endInSuccess_coherent h p
  failure p h := endInFailure_coherent h p
  loss p h := endInLoss_coherent h p
  recovery p _ h := coherent_of_same h ((setPort_service p _ _).trans (settleDrained_service p _))
  validated _ served h := completeValidation_coherent served h
  stored v equal _ _ := completeStore_coherent v equal _
  loaded h := completeLoad_coherent h
  tick h := tick_coherent h

/-- Settles O60: by the event of the step. -/
theorem everyStepKeepsTheEngineLaws : Obligations.EveryStepKeepsTheEngineLaws := by
  unfold Obligations.EveryStepKeepsTheEngineLaws
  exact fun _ _ h e => engine_eventClosed.step h e

end Sys2Proof.Proofs.EngineLaws

/-! PROOF. The laws of the ports and local places do not bound the failed attempts of a replacement that waits, which an
arbitration loss puts into its place (R34, R37). -/

namespace Sys2Proof.Proofs.PortLaws

open Sys2Proof.Machine Sys2Proof.Safety

/-- A lockout frame as the cleared bank forms it. -/
def lockoutFrame : Frame := clearedTemplate.form 0 0

/-- A lockout frame in mid-attempt, behind which waits a replacement that counts eight failed attempts, at an arbitration
loss. -/
def wornReplacement : State := { State.reset with
  pending := [.arbitrationLoss .chassis]
  chassis := { resetPort with attempt := some ⟨.lockout, lockoutFrame⟩ }
  places := { resetPlaces with lockout := ⟨some ⟨lockoutFrame, 0, false⟩, some ⟨lockoutFrame, 8, false⟩⟩ } }

theorem wornReplacement_chassis : PortCoherent wornReplacement .chassis where
  held a attempt := by
    obtain rfl : a = ⟨.lockout, lockoutFrame⟩ := (Option.mem_some.mp attempt).symm
    exact ⟨rfl, rfl⟩
  run _ := by decide
  timer := by decide
  silent := nofun
  pending := by decide
  ret := by decide
  quiescing := nofun
  stopped := nofun
  returns := nofun

theorem wornReplacement_body : PortCoherent wornReplacement .body where
  held := nofun
  run _ := by decide
  timer := by decide
  silent := nofun
  pending := by decide
  ret := by decide
  quiescing := nofun
  stopped := nofun
  returns := nofun

theorem wornReplacement_places : PlacesCoherent wornReplacement where
  lockout _ := rfl
  status := nofun
  level := nofun
  tried src f found := by
    cases src with
    | lockout =>
      cases found
      decide
    | response q => cases q <;> cases found
    | _ => cases found

/-- After the loss the replacement stands in the place. -/
theorem wornReplacement_step : ∃ t, step wornReplacement = .next t
    ∧ t.places.at .lockout = some ⟨lockoutFrame, 8, false⟩ := ⟨_, rfl, rfl⟩

/-- Refutes O59: the law bounds the attempt count of the frame in a place, not that of the replacement that waits behind it, and
the replacement is the frame in the place after an arbitration loss. -/
theorem not_everyStepKeepsThePortLaws : ¬Obligations.EveryStepKeepsThePortLaws := by
  unfold Obligations.EveryStepKeepsThePortLaws
  intro keeps
  obtain ⟨t, next, taken⟩ := wornReplacement_step
  obtain ⟨-, -, places⟩ :=
    keeps wornReplacement t ⟨wornReplacement_chassis, wornReplacement_body, wornReplacement_places⟩ next
  exact absurd (places.tried .lockout _ taken) (by decide)

end Sys2Proof.Proofs.PortLaws

/-! PROOF. The drive interlock, event by event: each entry by the explicit record it leaves (chapter 4). -/

namespace Sys2Proof.Proofs.Interlock

open Sys2Proof.Machine Sys2Proof.Safety Sys2Proof.Laws.Terms Sys2Proof.Proofs.Requests

variable {s : State}

/-! ## Phase A (R86, R91) -/

/-- Settles O33: the content is named, the ceiling falls whole, and the phase does not end at its entry. -/
theorem phaseAHoldsTheTransmission : Obligations.PhaseAHoldsTheTransmission := by
  unfold Obligations.PhaseAHoldsTheTransmission
  intro s app engaging content
  have down : holdsDown app = true := by rcases engaging with rfl | rfl <;> rfl
  have flags : (app == .pump) = false ∧ (app == .roll) = false ∧ (app == .road) = false ∧ app ≠ .pump := by
    rcases engaging with rfl | rfl <;> decide
  obtain ⟨notPump, notRoll, notRoad, app_ne⟩ := flags
  unfold enterPhaseA
  dsimp only
  rw [nameContent_change _ (by exact content)]
  simp only [changeContent, emitLockout, placeLockout_eq]
  rw [evaluateCeiling_holdsDown _ (by exact down), testPhaseA_unconfirmed (by rfl)]
  simp only [Controller.changeApp, Controller.setLamp, State.setCtl, notPump, notRoll, notRoad, app_ne, if_false,
    Bool.and_false]
  rfl

theorem disengageFor_eq (c : Cause) (i : Option Nat) (s : State) :
    disengageFor c i s = disengagingThrough (.cause c) (report c i s) := enterDisengaging_through _ _

/-! ## The ceiling (R109 to R112) -/

/-- The least of the five contributions, by the flags in force (R109, R110). -/
theorem target_eq (s : State) : s.target =
    if s.ctl.guard ∨ s.ctl.overspeed ∨ s.ctl.speedAbsent then 0
    else if s.protectionHolds then
      min (modeBase s.ctl.app s.tables.active.params) (min s.tables.active.params.protCeiling 1000)
    else min (modeBase s.ctl.app s.tables.active.params) 1000 := by
  unfold State.target
  generalize modeBase s.ctl.app s.tables.active.params = base
  cases s.ctl.guard with
  | true => simp
  | false =>
    cases s.ctl.overspeed with
    | true => simp
    | false =>
      cases s.ctl.speedAbsent with
      | true => simp
      | false =>
        simp only [Bool.false_eq_true, or_self, if_false]
        split <;> omega

/-- An evaluation reports the onset of protection, and the ceiling moves (R110, R112). -/
theorem evaluateCeiling_eq (s : State) : evaluateCeiling s =
    if s.protectionHolds = true ∧ s.ceil.protection = false then
      report .tankProtection none { s with ceil := { s.ceil with
        protection := s.protectionHolds, e := moveCeiling s.ceil.e s.target s.tables.active.params.rise } }
    else
      { s with ceil := { s.ceil with
        protection := s.protectionHolds, e := moveCeiling s.ceil.e s.target s.tables.active.params.rise } } := by
  unfold evaluateCeiling
  dsimp only
  split <;> rfl

/-- Settles O37: the timer's reload, the least contribution and the move. -/
theorem ceilingMovesTowardItsTarget : Obligations.CeilingMovesTowardItsTarget := by
  unfold Obligations.CeilingMovesTowardItsTarget
  intro s expired
  refine (congrArg Host.Outcome.next (if_pos expired)).trans (congrArg Host.Outcome.next ?_)
  rw [evaluateCeiling_eq, target_eq]
  unfold moveCeiling Params.rise modeBase
  cases app : s.ctl.app <;> rfl

/-! ## Road speed in PUMP and ROLL (R95, R97) -/

theorem present_eq {r : Role} {i : Fin 32} (bound : s.tables.active.roles.get r = some i) : s.present r = s.slots[i].present := by
  unfold State.present
  rw [bound]

theorem usable_eq {r : Role} {i : Fin 32} (bound : s.tables.active.roles.get r = some i) : s.usable r = s.slots[i].usable := by
  unfold State.usable
  rw [bound]

/-- The roll flags as the present road speed sets them, with the report of each that is newly set (R97). -/
theorem updateRollFlags_absent (h : s.present .roadSpeed = none) : updateRollFlags s =
    if s.ctl.speedAbsent then { s with ctl := { s.ctl with overspeed := false, speedAbsent := true } }
    else report .speedAbsentRolling none { s with ctl := { s.ctl with overspeed := false, speedAbsent := true } } := by
  unfold updateRollFlags
  rw [h]
  cases s.ctl.speedAbsent <;> simp [State.setCtl]

theorem updateRollFlags_slow {v : Int} (h : s.present .roadSpeed = some v)
    (slow : v ≤ (s.tables.active.params.rollSpeedLimit : Int)) :
    updateRollFlags s = { s with ctl := { s.ctl with overspeed := false, speedAbsent := false } } := by
  unfold updateRollFlags
  rw [h]
  simp [State.setCtl, Int.not_lt.mpr slow]

theorem updateRollFlags_fast {v : Int} (h : s.present .roadSpeed = some v)
    (fast : (s.tables.active.params.rollSpeedLimit : Int) < v) : updateRollFlags s =
    if s.ctl.overspeed then { s with ctl := { s.ctl with overspeed := true, speedAbsent := false } }
    else report .rollOverspeed none { s with ctl := { s.ctl with overspeed := true, speedAbsent := false } } := by
  unfold updateRollFlags
  rw [h]
  cases s.ctl.overspeed <;> simp [State.setCtl, fast]

theorem usableAbove_iff {r : Role} {limit : Nat} :
    s.usableAbove r limit = true ↔ ∃ v, s.usable r = some v ∧ (limit : Int) < v := by
  unfold State.usableAbove
  cases s.usable r <;> simp

theorem testCreep_slow (h : ¬s.usableAbove .roadSpeed s.tables.active.params.creepLimit = true) :
    testCreep s = { s with ctl := { s.ctl with creep := none } } := if_neg h

theorem testCreep_running (h : s.usableAbove .roadSpeed s.tables.active.params.creepLimit = true) (running : s.ctl.creep.isSome) :
    testCreep s = s := (if_pos h).trans (if_pos running)

theorem testCreep_starts (h : s.usableAbove .roadSpeed s.tables.active.params.creepLimit = true) (idle : s.ctl.creep = none)
    (time : 0 < s.tables.active.params.creepTime) :
    testCreep s = { s with ctl := { s.ctl with creep := some s.tables.active.params.creepTime } } :=
  (if_pos h).trans ((if_neg (by rw [idle]; decide)).trans (if_neg time.ne'))

theorem testCreep_expires (h : s.usableAbove .roadSpeed s.tables.active.params.creepLimit = true) (idle : s.ctl.creep = none)
    (time : s.tables.active.params.creepTime = 0) :
    testCreep s = disengagingThrough (.cause .creepDetected) (report .creepDetected none s) :=
  (if_pos h).trans ((if_neg (by rw [idle]; decide)).trans ((if_pos time).trans (disengageFor_eq _ _ _)))

theorem onRoadSpeed_roll (h : s.ctl.app = .roll) : onRoadSpeed s = updateRollFlags s := by
  unfold onRoadSpeed
  rw [h]

theorem onRoadSpeed_pump (h : s.ctl.app = .pump) : onRoadSpeed s = testCreep s := by
  unfold onRoadSpeed
  rw [h]

theorem onRoadSpeed_engaging (h : s.ctl.app = .mainEngaging ∨ s.ctl.app = .auxEngaging) :
    onRoadSpeed s = if s.moving then disengageFor .engageAborted (some 2) s else s := by
  unfold onRoadSpeed
  rcases h with h | h <;> rw [h]

theorem onRoadSpeed_stands
    (h : s.ctl.app = .unloaded ∨ s.ctl.app = .road ∨ s.ctl.app = .disengaging ∨ s.ctl.app = .faultHold) :
    onRoadSpeed s = s := by
  unfold onRoadSpeed
  rcases h with h | h | h | h <;> rw [h]

/-- Settles O26: the roll flags and the creep timer by the road speed. -/
theorem roadSpeedIsWatchedInPumpAndRoll : Obligations.RoadSpeedIsWatchedInPumpAndRoll := by
  unfold Obligations.RoadSpeedIsWatchedInPumpAndRoll
  refine ⟨fun s i w roll bound => ?roll, fun s i w pump bound => ?pump, fun s w h => onRoadSpeed_stands h⟩
  case roll =>
    have reads : s.present .roadSpeed = s.slots[i].present := present_eq bound
    have watched : notify .roadSpeed w s = updateRollFlags s := onRoadSpeed_roll roll
    dsimp only
    rw [watched]
    exact ⟨fun h => updateRollFlags_absent (reads.trans h), fun v h => updateRollFlags_slow (reads.trans h),
      fun v h => updateRollFlags_fast (reads.trans h)⟩
  case pump =>
    have reads : s.usable .roadSpeed = s.slots[i].usable := usable_eq bound
    have watched : notify .roadSpeed w s = testCreep s := onRoadSpeed_pump pump
    dsimp only
    rw [watched, ← reads]
    simp only [← usableAbove_iff]
    exact ⟨testCreep_slow, testCreep_running, testCreep_starts, testCreep_expires,
      fun expired => congrArg Host.Outcome.next ((if_pos expired).trans (disengageFor_eq _ _ _))⟩

/-! ## Expiries at a slot (R57, R63, R66) -/

theorem slotError_eq (i : Fin 32) (reload : Bool) (s : State) : slotError i reload s =
    (let y := errorSlot s.tables.active.sdt[i] s.slots[i]
     let z : Slot := if reload then { y with freshness := s.tables.active.sdt[i].freshLoad } else y
     let t : State := { s with slots := s.slots.set i z }
     if s.slots[i].status ≠ .lost ∧ y.status = .lost then report .signalLost (some i.val) t else t) := by
  unfold slotError
  simp only [takeError_eq, Slot.entersLost, decide_eq_true_eq]
  rfl

/-- A slot bound to no notifying role notifies nothing (R66). -/
theorem notified_unbound {i : Fin 32} (v : Option Int) (h : Unnotified s.tables.active.roles i) : notified i v s = s := by
  obtain ⟨speed, engine, range, request⟩ := h
  unfold notified
  simp only [if_neg speed, if_neg engine, if_neg range, if_neg request]

/-- A slot bound to one notifying role notifies that role (R66). -/
theorem notified_bound {i : Fin 32} (v : Option Int) {r : Role} (notifies : r ≠ .intakePressure)
    (h : ∀ k, k ≠ .intakePressure → (s.tables.active.roles.get k = some i ↔ k = r)) : notified i v s = notify r v s := by
  have speed : s.tables.active.roles.roadSpeed = some i ↔ Role.roadSpeed = r := h .roadSpeed (by decide)
  have engine : s.tables.active.roles.engineSpeed = some i ↔ Role.engineSpeed = r := h .engineSpeed (by decide)
  have range : s.tables.active.roles.currentRange = some i ↔ Role.currentRange = r := h .currentRange (by decide)
  have request : s.tables.active.roles.modeRequest = some i ↔ Role.modeRequest = r := h .modeRequest (by decide)
  unfold notified
  simp only [speed, engine, range, request]
  cases r with
  | intakePressure => exact absurd rfl notifies
  | _ => rfl

/-- Settles O25: the error event, the hold's end, and whom a slot notifies. -/
theorem freshnessAndHoldExpiriesAgeASlot : Obligations.FreshnessAndHoldExpiriesAgeASlot := by
  unfold Obligations.FreshnessAndHoldExpiriesAgeASlot
  refine ⟨fun s i expired => ⟨?freshness, fun h u same => ?unbound⟩, fun s i expired => ?hold,
    fun s i v r notifies bound => ?bound⟩
  case freshness =>
    refine (congrArg Host.Outcome.next (if_pos expired)).trans (congrArg (fun t => Host.Outcome.next (notifyRoles i none t)) ?_)
    rw [slotError_eq]
    rfl
  case unbound =>
    rw [notifyRoles_eq]
    exact notified_unbound none (by rwa [same])
  case hold => exact congrArg Host.Outcome.next (if_pos expired)
  case bound =>
    rw [notifyRoles_eq]
    exact notified_bound v notifies bound

/-! ## Inputs in PUMP and ROAD (R94, R103, R106) -/

/-- The debounced level of an input has taken its pin's (R79). -/
def debounced (i : InputId) (s : State) : State :=
  { s with ctl := s.ctl.setInput i ⟨(s.ctl.input i).pinLow, (s.ctl.input i).pinLow, none⟩ }

theorem exec_debounced {i : InputId} (expired : (s.ctl.input i).countdown = some 0) :
    exec (.debouncedInputChange i) s = .next (onInput i (debounced i s)) :=
  congrArg Host.Outcome.next (if_pos expired)

/-- A lamp that is set to FLASH keeps its rhythm where it flashes already (R106). -/
theorem setLamp_flash (c : Controller) : c.setLamp .flash = { c with
    lamp := .flash, lampHigh := c.lampHigh || c.lamp ≠ .flash, flash := if c.lamp = .flash then c.flash else some 500 } := by
  unfold Controller.setLamp
  dsimp only
  by_cases h : c.lamp = .flash
  · rw [if_pos h]
    obtain ⟨⟩ := c
    simp_all
  · rw [if_neg h]
    simp [h]

theorem onPark_pump (h : s.ctl.app = .pump) : onPark s =
    if s.ctl.park.active then evaluateCeiling (s.setCtl ({ s.ctl with guard := false }.setLamp .on))
    else
      evaluateCeiling (report .parkReleasedPumping none (s.setCtl ({ s.ctl with guard := true }.setLamp .flash))) := by
  unfold onPark
  rw [h]

theorem evaluateCeiling_guarded (h : s.ctl.guard = true) : (evaluateCeiling s).ceil.e = 0 := by
  have target : s.target = 0 := by rw [target_eq, if_pos (.inl h)]
  rw [evaluateCeiling_e, target, moveCeiling_to_zero]

theorem onMainFb_road (h : s.ctl.app = .road) : onMainFb s = roadFeedback 0 s.ctl.mainFb.active s := by
  unfold onMainFb
  dsimp only
  rw [h]

theorem onAuxFb_road (h : s.ctl.app = .road) : onAuxFb s = roadFeedback 1 s.ctl.auxFb.active s := by
  unfold onAuxFb
  dsimp only
  rw [h]

theorem roadFeedback_eq (index : Nat) (active : Bool) (s : State) : roadFeedback index active s =
    if active then
      report .feedbackMismatch (some index) { s with ctl := { s.ctl with
        mismatch := true, lamp := .flash, lampHigh := s.ctl.lampHigh || s.ctl.lamp ≠ .flash
        flash := if s.ctl.lamp = .flash then s.ctl.flash else some 500 } }
    else if s.ctl.mainFb.active = false ∧ s.ctl.auxFb.active = false then
      { s with ctl := { s.ctl with mismatch := false, lamp := .off, lampHigh := false, flash := none } }
    else s := by
  unfold roadFeedback
  rw [setLamp_flash]
  simp only [← feedbacksClear_iff]
  rfl

/-- Settles O28: PARK_SW in PUMP and the feedbacks in ROAD. -/
theorem inputsAreWatchedInPumpAndRoad : Obligations.InputsAreWatchedInPumpAndRoad := by
  unfold Obligations.InputsAreWatchedInPumpAndRoad
  refine ⟨fun s pump expired => ⟨fun low => ?back, fun low => ⟨?away, evaluateCeiling_guarded rfl⟩⟩,
    fun s i index which road expired => ?road⟩
  case back =>
    have watched := onPark_pump (s := debounced .parkSw s) pump
    refine (exec_debounced (i := .parkSw) expired).trans (congrArg Host.Outcome.next (watched.trans ?_))
    exact if_pos low
  case away =>
    have watched := onPark_pump (s := debounced .parkSw s) pump
    refine (exec_debounced (i := .parkSw) expired).trans (congrArg Host.Outcome.next (watched.trans ?_))
    rw [setLamp_flash]
    exact if_neg (Bool.eq_false_iff.mp low)
  case road =>
    refine (exec_debounced expired).trans (congrArg Host.Outcome.next ?_)
    rcases which with ⟨rfl, rfl⟩ | ⟨rfl, rfl⟩
    · exact (onMainFb_road (s := debounced .mainFb s) road).trans (roadFeedback_eq 0 _ _)
    · exact (onAuxFb_road (s := debounced .auxFb s) road).trans (roadFeedback_eq 1 _ _)

/-! ## Violations (R89, R90, R93, R96) -/

theorem onInput_violates {i : InputId} {cause : Cause} {n : Nat}
    (h : violation s.ctl i (s.ctl.input i).active = some (cause, n)) : onInput i s = disengageFor cause (some n) s := by
  unfold violation at h
  split at h
  case h_1 app active =>
    cases h
    simp only [onInput, onPark, app, show s.ctl.park.active = false from active, Bool.false_eq_true, if_false]
  case h_2 app active =>
    split at h
    · cases h
      simp only [onInput, onMainFb, app, show s.ctl.mainFb.active = true from active, ‹s.ctl.phase = .a›, if_true]
    · cases h
  case h_3 app active =>
    split at h
    · cases h
      simp only [onInput, onMainFb, app, show s.ctl.mainFb.active = false from active, ‹s.ctl.phase = .c›,
        Bool.false_eq_true, if_false]
    · cases h
  case h_6 app active =>
    split at h
    · cases h
      simp only [onInput, onAuxFb, app, show s.ctl.auxFb.active = true from active, ‹s.ctl.phase = .a›, if_true]
    · cases h
  case h_4 app active | h_8 app active =>
    cases h
    simp only [onInput, onAuxFb, app, show s.ctl.auxFb.active = true from active, if_true]
  case h_5 app active | h_9 app active =>
    cases h
    simp only [onInput, onMainFb, app, show s.ctl.mainFb.active = true from active, if_true]
  case h_7 app active =>
    cases h
    simp only [onInput, onMainFb, app, show s.ctl.mainFb.active = false from active, Bool.false_eq_true, if_false]
  case h_10 app active =>
    cases h
    simp only [onInput, onAuxFb, app, show s.ctl.auxFb.active = false from active, Bool.false_eq_true, if_false]
  case h_11 => cases h

theorem onPark_stands (none_ : violation s.ctl .parkSw s.ctl.park.active = none) (h : s.ctl.app ≠ .pump) : onPark s = s := by
  unfold onPark
  split
  · split
    · rfl
    · rename_i app active
      simp [violation, app, Bool.not_eq_true _ ▸ active] at none_
  · exact absurd ‹_› h
  all_goals rfl

theorem onMainFb_stands (none_ : violation s.ctl .mainFb s.ctl.mainFb.active = none)
    (h : s.ctl.app = .mainEngaging ∨ s.ctl.app = .auxEngaging ∨ s.ctl.app = .pump ∨ s.ctl.app = .roll)
    (b : ¬(s.ctl.phase = .b ∧ s.ctl.mainFb.active = true)) : onMainFb s = s := by
  unfold onMainFb
  dsimp only
  rcases h with app | app | app | app
  all_goals
    cases active : s.ctl.mainFb.active
    all_goals simp only [app, active, violation, reduceCtorEq] at none_ ⊢
  · cases phase : s.ctl.phase <;> simp_all
  · cases phase : s.ctl.phase <;> simp_all
  all_goals rfl

theorem onAuxFb_stands (none_ : violation s.ctl .auxFb s.ctl.auxFb.active = none)
    (h : s.ctl.app = .mainEngaging ∨ s.ctl.app = .auxEngaging ∨ s.ctl.app = .pump ∨ s.ctl.app = .roll)
    (b : ¬(s.ctl.phase = .b ∧ s.ctl.auxFb.active = true)) : onAuxFb s = s := by
  unfold onAuxFb
  dsimp only
  rcases h with app | app | app | app
  all_goals
    cases active : s.ctl.auxFb.active
    all_goals simp only [app, active, violation, reduceCtorEq] at none_ ⊢
  · rfl
  · cases s.ctl.phase <;> rfl
  · cases phase : s.ctl.phase <;> simp_all
  all_goals rfl

theorem violation_debounced (i : InputId) (s : State) :
    violation (debounced i s).ctl i ((debounced i s).ctl.input i).active = violation s.ctl i (s.ctl.input i).pinLow := by
  cases i <;> rfl

/-- Settles O29: the table of violations, and what changes nothing. -/
theorem violationsBeginTheDisengaging : Obligations.ViolationsBeginTheDisengaging := by
  unfold Obligations.ViolationsBeginTheDisengaging
  intro s
  refine ⟨fun i cause n expired violates => ?violates, fun i expired none_ app park b => ?stands,
    fun i w engaging bound => ⟨fun v speed => ?fast, fun speed => ?unusable⟩⟩
  case violates =>
    refine (exec_debounced expired).trans (congrArg Host.Outcome.next ?_)
    rw [onInput_violates ((violation_debounced i s).trans violates), disengageFor_eq]
    rfl
  case stands =>
    refine (exec_debounced expired).trans (congrArg Host.Outcome.next ?_)
    rw [← violation_debounced] at none_
    cases i with
    | parkSw => exact onPark_stands (s := debounced .parkSw s) none_ fun pump => park ⟨pump, rfl⟩
    | mainFb => exact onMainFb_stands (s := debounced .mainFb s) none_ app fun h => b ⟨h.1, by decide, h.2⟩
    | auxFb => exact onAuxFb_stands (s := debounced .auxFb s) none_ app fun h => b ⟨h.1, by decide, h.2⟩
  case fast =>
    refine (onRoadSpeed_engaging engaging).trans ?_
    rw [disengageFor_eq]
    have moving : s.moving = decide ((s.tables.active.params.stationary : Int) < v) := by
      unfold State.moving State.usableAbove
      rw [usable_eq (r := .roadSpeed) bound, speed]
    rw [moving]
    simp only [decide_eq_true_eq]
  case unusable =>
    refine (onRoadSpeed_engaging engaging).trans (if_neg ?_)
    unfold State.moving
    rw [usableAbove_iff, usable_eq (r := .roadSpeed) bound, speed]
    rintro ⟨v, h, -⟩
    cases h

end Sys2Proof.Proofs.Interlock

/-! PROOF. The phases and their ends: timeouts, notifications, the ways back to ROAD and the engagements up to their drives
(R77, R78, R86 to R102). -/

namespace Sys2Proof.Proofs.Phases

open Sys2Proof.Machine Sys2Proof.Safety Sys2Proof.Laws.Terms Sys2Proof.Proofs.Requests Sys2Proof.Proofs.Interlock
open Sys2Proof.Proofs.Attempts

variable {s : State}

/-! ## Ends by a timeout (R77, R99 to R102) -/

theorem holdingNeutral_ceiling (s : State) (e : Nat) (protection : Bool) :
    { holdingNeutral s with ceil := { (holdingNeutral s).ceil with e := e, protection := protection } }
      = holdingNeutral { s with ceil := { s.ceil with e := e, protection := protection } } := by
  unfold holdingNeutral
  dsimp only
  split <;> rfl

/-- The entry into FAULT_HOLD, before its exit is tested (R101, R102, R106). -/
def inFaultHold (s : State) : State :=
  holdingNeutral { s with
    ctl := { s.ctl with
      app := .faultHold, phase := .none, origin := none, cause := some (.cause .releaseTimeout), phaseTimer := none
      mainShift := false, auxClutch := false, lamp := .flash, lampHigh := s.ctl.lampHigh || s.ctl.lamp ≠ .flash
      flash := if s.ctl.lamp = .flash then s.ctl.flash else some 500
      guard := false, creep := none, overspeed := false, speedAbsent := false, mismatch := false }
    ceil := { s.ceil with e := 0, protection := false } }

theorem enterFaultHold_eq (s : State) : enterFaultHold s =
    if s.ctl.lastReq = some .road ∧ s.feedbacksClear = true ∧ s.rangeNeutral = true then backInRoad (inFaultHold s)
    else inFaultHold s := by
  have flags : (AppState.faultHold == .pump) = false ∧ (AppState.faultHold == .roll) = false
      ∧ (AppState.faultHold == .road) = false := by decide
  obtain ⟨notPump, notRoll, notRoad⟩ := flags
  have entered : evaluateCeiling (nameContent .holdNeutral (s.setCtl (Controller.setLamp { s.ctl.changeApp .faultHold with
      phase := .none, origin := none, cause := some (.cause .releaseTimeout), phaseTimer := none, mainShift := false
      auxClutch := false } .flash))) = inFaultHold s := by
    rw [evaluateCeiling_holdsDown _ (by rw [nameContent_ctl, setLamp_flash]; rfl), nameNeutral_eq, holdingNeutral_ceiling,
      setLamp_flash]
    unfold inFaultHold
    simp only [Controller.changeApp, notPump, notRoll, notRoad, Bool.and_false, reduceCtorEq, if_false]
    rfl
  unfold enterFaultHold
  dsimp only
  rw [entered, testFaultHold_eq]
  · simp only [inFaultHold, holdingNeutral_ctl, holdingNeutral_feedbacksClear, holdingNeutral_rangeNeutral]
    rfl
  · unfold inFaultHold
    rw [holdingNeutral_ctl]
  · exact holdingNeutral_content _

theorem exec_phaseTimer (expired : s.ctl.phaseTimer = some 0) : exec .phaseTimerExpiry s = .next (onPhaseTimer s) :=
  congrArg Host.Outcome.next (if_pos expired)

theorem onPhaseTimer_engaging {cause : Cause}
    (h : (s.ctl.phase = .a ∧ cause = .phaseATimeout) ∨ (s.ctl.phase = .b ∧ cause = .phaseBTimeout)
      ∨ (s.ctl.phase = .c ∧ cause = .phaseCTimeout)) :
    onPhaseTimer s = disengagingThrough (.cause cause) (report cause none s) := by
  unfold onPhaseTimer
  rcases h with ⟨phase, rfl⟩ | ⟨phase, rfl⟩ | ⟨phase, rfl⟩
  all_goals
    rw [phase]
    exact disengageFor_eq _ none s

theorem onPhaseTimer_d1 (phase : s.ctl.phase = .d1) : onPhaseTimer s = enterD2 (report .throttleDownTimeout none s) := by
  unfold onPhaseTimer
  rw [phase]

theorem onPhaseTimer_d2 (phase : s.ctl.phase = .d2) : onPhaseTimer s = enterD3 (report .neutralTimeout none s) := by
  unfold onPhaseTimer
  rw [phase]

theorem onPhaseTimer_d3 (phase : s.ctl.phase = .d3) : onPhaseTimer s = enterFaultHold (report .releaseTimeout none s) := by
  unfold onPhaseTimer
  rw [phase]

/-! ## Ends by a notification (R86, R88, R99, R100, R102) -/

theorem onEngineSpeed_a (phase : s.ctl.phase = .a) : onEngineSpeed s = testPhaseA s := by
  unfold onEngineSpeed
  rw [phase]

theorem onEngineSpeed_d1 (phase : s.ctl.phase = .d1) : onEngineSpeed s = testD1 s := by
  unfold onEngineSpeed
  rw [phase]

theorem onEngineSpeed_stands (notA : s.ctl.phase ≠ .a) (notD1 : s.ctl.phase ≠ .d1) : onEngineSpeed s = s := by
  unfold onEngineSpeed
  split
  · exact absurd ‹_› notA
  · exact absurd ‹_› notD1
  all_goals rfl

theorem onCurrentRange_a (phase : s.ctl.phase = .a) : onCurrentRange s = testPhaseA s := by
  unfold onCurrentRange
  rw [phase]

theorem onCurrentRange_c (phase : s.ctl.phase = .c) : onCurrentRange s = testMainC s := by
  unfold onCurrentRange
  rw [phase]

theorem onCurrentRange_d2 (phase : s.ctl.phase = .d2) : onCurrentRange s = testD2 s := by
  unfold onCurrentRange
  rw [phase]

theorem onCurrentRange_none (phase : s.ctl.phase = .none) :
    onCurrentRange s = if s.ctl.app = .faultHold then testFaultHold s else s := by
  unfold onCurrentRange
  rw [phase]

theorem onCurrentRange_stands (phase : s.ctl.phase = .b ∨ s.ctl.phase = .d1 ∨ s.ctl.phase = .d3) :
    onCurrentRange s = s := by
  unfold onCurrentRange
  rcases phase with phase | phase | phase <;> rw [phase]

/-- Settles O30: the phase's timeout and its two notifications. -/
theorem phasesEndByTimeoutAndNotification : Obligations.PhasesEndByTimeoutAndNotification := by
  unfold Obligations.PhasesEndByTimeoutAndNotification
  refine ⟨fun s expired => ?timeout, fun s v => ?notified⟩
  case timeout =>
    rw [exec_phaseTimer expired]
    refine ⟨fun cause engaging => ?engaging, fun phase quiet => ?d1, fun phase quiet => ?d2, fun phase lamp => ?d3⟩
    case engaging => rw [onPhaseTimer_engaging engaging]
    case d1 => rw [onPhaseTimer_d1 phase, enterD2_eq (report .throttleDownTimeout none s) quiet]
    case d2 => rw [onPhaseTimer_d2 phase, enterD3_eq (report .neutralTimeout none s) quiet]
    case d3 =>
      rw [onPhaseTimer_d3 phase, enterFaultHold_eq]
      unfold inFaultHold
      simp only [report_ctl, lamp, ne_eq, reduceCtorEq, not_false_eq_true, decide_true, Bool.or_true, if_false]
      rfl
  case notified =>
    refine ⟨fun phase quiet => ?engine, fun phase quiet => ?range, onEngineSpeed_stands, onCurrentRange_stands,
      fun phase other => ?phaseC, fun phase app => ?noPhase⟩
    case engine =>
      refine (onEngineSpeed_d1 phase).trans ?_
      rw [← enterD2_eq s quiet]
      rfl
    case range =>
      refine (onCurrentRange_d2 phase).trans ?_
      rw [← enterD3_eq s quiet]
      rfl
    case phaseC => exact (onCurrentRange_c phase).trans (if_neg fun h => other (of_decide_eq_true h))
    case noPhase => exact (onCurrentRange_none phase).trans (if_neg app)

/-! ## The ways back to ROAD (R101, R102) -/

theorem testD3_eq (h : s.ctl.mismatch = false) (c : s.ceil.content = .holdNeutral) :
    testD3 s = if s.ctl.mainFb.active = false ∧ s.ctl.auxFb.active = false then backInRoad s else s := by
  unfold testD3
  rw [returnToRoad_eq s h c]
  simp only [feedbacksClear_iff]

theorem onFeedback_d3 {i : InputId} (h : i = .mainFb ∨ i = .auxFb) (app : s.ctl.app = .disengaging)
    (phase : s.ctl.phase = .d3) : onInput i s = testD3 s := by
  rcases h with rfl | rfl
  · simp only [onInput, onMainFb, app, phase, if_true]
  · simp only [onInput, onAuxFb, app, phase, if_true]

theorem onFeedback_faultHold {i : InputId} (h : i = .mainFb ∨ i = .auxFb) (app : s.ctl.app = .faultHold) :
    onInput i s = testFaultHold s := by
  rcases h with rfl | rfl
  · simp only [onInput, onMainFb, app]
  · simp only [onInput, onAuxFb, app]

theorem requestEvent_hold (r : Request) (app : s.ctl.app = .faultHold) : requestEvent r s = testFaultHold s := by
  unfold requestEvent
  rw [app]

theorem debounced_frame (i : InputId) (s : State) : (debounced i s).ctl.app = s.ctl.app
    ∧ (debounced i s).ctl.phase = s.ctl.phase ∧ (debounced i s).ctl.mismatch = s.ctl.mismatch := by
  cases i <;> exact ⟨rfl, rfl, rfl⟩

theorem holdingNeutral_same (c : s.ceil.content = .holdNeutral) : holdingNeutral s = s := if_pos c

/-- A disengaging that no phase holds up is back in ROAD within its event (R78). -/
theorem disengagingThrough_backInRoad (cause : DisCause) (mismatch : s.ctl.mismatch = false)
    (content : s.ceil.content = .holdNeutral) (slow : s.engineSlow = true) (neutral : s.rangeNeutral = true)
    (clear : s.feedbacksClear = true) :
    disengagingThrough cause s = backInRoad { s with ceil := { s.ceil with e := 0 } } := by
  unfold disengagingThrough inD2 inD3
  dsimp only
  rw [if_pos (show (disengagingFrom cause s).engineSlow = true from slow), holdingNeutral_same (by exact content),
    if_pos (by exact neutral), holdingNeutral_same (by exact content), if_pos (by exact clear)]
  simp only [backInRoad, disengagingFrom, mismatch]
  rfl

/-- Settles O31: each way back ends at the test for the return. -/
theorem roadIsReachedAgain : Obligations.RoadIsReachedAgain := by
  unfold Obligations.RoadIsReachedAgain
  intro s mismatch content
  have held {t : State} (m : t.ctl.mismatch = false) (c : t.ceil.content = .holdNeutral) :
      ((t.ctl.lastReq = some .road ∧ t.feedbacksClear = true ∧ t.rangeNeutral = true → testFaultHold t = backInRoad t)
        ∧ (¬(t.ctl.lastReq = some .road ∧ t.feedbacksClear = true ∧ t.rangeNeutral = true) → testFaultHold t = t)) :=
    ⟨fun ended => (testFaultHold_eq t m c).trans (if_pos ended), fun stands => (testFaultHold_eq t m c).trans (if_neg stands)⟩
  refine ⟨fun i app phase feedback expired => ?d3, fun expired phase _ slow neutral clear => ?phaseA,
    fun app => ⟨fun r => ?request, fun i feedback expired => ?feedback, fun v phase => ?range⟩⟩
  case d3 =>
    obtain ⟨app', phase', mismatch'⟩ := debounced_frame i s
    refine (exec_debounced expired).trans (congrArg Host.Outcome.next ?_)
    rw [onFeedback_d3 feedback (app'.trans app) (phase'.trans phase)]
    exact testD3_eq (mismatch'.trans mismatch) content
  case phaseA =>
    refine (exec_phaseTimer expired).trans (congrArg Host.Outcome.next ?_)
    rw [onPhaseTimer_engaging (.inl ⟨phase, rfl⟩)]
    exact disengagingThrough_backInRoad (s := report .phaseATimeout none s) _ mismatch content slow neutral clear
  case request =>
    rw [requestEvent_hold r app]
    exact held mismatch content
  case feedback =>
    obtain ⟨app', -, mismatch'⟩ := debounced_frame i s
    rw [exec_debounced expired, onFeedback_faultHold feedback (app'.trans app)]
    obtain ⟨ends, stands⟩ := held (mismatch'.trans mismatch) content
    exact ⟨fun h => congrArg Host.Outcome.next (ends h), fun h => congrArg Host.Outcome.next (stands h)⟩
  case range =>
    have tested : notify .currentRange v s = testFaultHold s := (onCurrentRange_none phase).trans (if_pos app)
    rw [tested]
    exact held mismatch content

/-! ## Engagements (R86 to R92) -/

/-- Phase B of an engagement: T_B loaded and the drive output asserted (R87, R92). -/
def inPhaseB (mainShift auxClutch : Bool) (s : State) : State :=
  { s with ctl := { s.ctl with
    phase := .b, phaseTimer := some (phaseLoad s.tables.active.params.tB), mainShift := mainShift, auxClutch := auxClutch } }

theorem enterMainB_eq (content : s.ceil.content = .holdNeutral) : enterMainB s =
    if s.ctl.mainFb.active then enterMainC (inPhaseB true s.ctl.auxClutch s) else inPhaseB true s.ctl.auxClutch s := by
  unfold enterMainB
  dsimp only
  rw [nameContent_same _ (by exact content)]
  rfl

theorem enterAuxB_eq (content : s.ceil.content = .holdNeutral) : enterAuxB s =
    if s.ctl.auxFb.active then enterRoll (inPhaseB s.ctl.mainShift true s) else inPhaseB s.ctl.mainShift true s := by
  unfold enterAuxB
  dsimp only
  rw [nameContent_same _ (by exact content)]
  rfl

theorem phaseADone_iff : s.phaseADone = true ↔ s.ctl.confirmed = true ∧ s.rangeNeutral = true ∧ s.engineSlow = true := by
  simp [State.phaseADone, and_assoc]

theorem testPhaseA_stands (h : ¬(s.ctl.confirmed = true ∧ s.rangeNeutral = true ∧ s.engineSlow = true)) :
    testPhaseA s = s := if_neg (mt phaseADone_iff.mp h)

theorem testPhaseA_main (done : s.ctl.confirmed = true ∧ s.rangeNeutral = true ∧ s.engineSlow = true)
    (app : s.ctl.app = .mainEngaging) : testPhaseA s = enterMainB s := by
  unfold testPhaseA
  rw [if_pos (phaseADone_iff.mpr done), app]

theorem testPhaseA_aux (done : s.ctl.confirmed = true ∧ s.rangeNeutral = true ∧ s.engineSlow = true)
    (app : s.ctl.app = .auxEngaging) : testPhaseA s = enterAuxB s := by
  unfold testPhaseA
  rw [if_pos (phaseADone_iff.mpr done), app]

/-- How phase A ends, by the engagement and its drive's feedback (R86, R87, R91, R92). -/
theorem testPhaseA_ends (done : s.ctl.confirmed = true ∧ s.rangeNeutral = true ∧ s.engineSlow = true)
    (content : s.ceil.content = .holdNeutral) :
    (s.ctl.app = .mainEngaging → s.ctl.mainFb.active = false → testPhaseA s = inPhaseB true s.ctl.auxClutch s)
    ∧ (s.ctl.app = .mainEngaging → s.ctl.mainFb.active = true → s.ctl.guard = false → s.ctl.creep = none →
      testPhaseA s = inMainC (inPhaseB true s.ctl.auxClutch s))
    ∧ (s.ctl.app = .auxEngaging → s.ctl.auxFb.active = true → s.ctl.overspeed = false → s.ctl.speedAbsent = false →
      testPhaseA s = inRoll (inPhaseB s.ctl.mainShift true s))
    ∧ (s.ctl.app = .auxEngaging → s.ctl.auxFb.active = false → testPhaseA s = inPhaseB s.ctl.mainShift true s) := by
  refine ⟨fun app fb => ?mainB, fun app fb guard creep => ?mainC, fun app fb fast absent => ?roll, fun app fb => ?auxB⟩
  case mainB => rw [testPhaseA_main done app, enterMainB_eq content, fb, if_neg Bool.false_ne_true]
  case mainC =>
    rw [testPhaseA_main done app, enterMainB_eq content, if_pos fb, enterMainC_eq]
    · rw [show (inPhaseB true s.ctl.auxClutch s).ceil.content = .holdNeutral from content]
      decide
    · exact guard
    · exact creep
  case roll =>
    rw [testPhaseA_aux done app, enterAuxB_eq content, if_pos fb, enterRoll_eq]
    · rw [show (inPhaseB s.ctl.mainShift true s).ceil.content = .holdNeutral from content]
      decide
    · exact fast
    · exact absent
  case auxB => rw [testPhaseA_aux done app, enterAuxB_eq content, fb, if_neg Bool.false_ne_true]

theorem onLockoutSuccess_a (stale : Bool) (phase : s.ctl.phase = .a) :
    onLockoutSuccess stale s = testPhaseA (s.setCtl { s.ctl with confirmed := s.ctl.confirmed || !stale }) := by
  unfold onLockoutSuccess
  rw [phase]

/-- A lockout frame has left the active Chassis Port (R33, R37, R40). -/
def lockoutSent (s : State) : State :=
  { s with
    chassis := { s.chassis with attempt := none, run := 0, localTransmitted := s.chassis.localTransmitted + 1 }
    places := { s.places with lockout := ⟨s.places.lockout.waiting, none⟩ } }

theorem exec_lockoutSuccess {a : Attempt} {f : LocalFrame} (attempt : s.chassis.attempt = some a)
    (source : a.source = .lockout) (active : s.chassis.st = .active) (held : s.places.lockout.cur = some f) :
    exec (.attemptSuccess .chassis) s = .next (onLockoutSuccess f.stale (lockoutSent s)) := by
  refine congrArg Host.Outcome.next ?_
  have stale : staleAt .lockout (succeeded .chassis s) = f.stale := by
    unfold staleAt
    rw [show (succeeded .chassis s).places.at .lockout = some f from held]
  have gone : sent .chassis .lockout (succeeded .chassis s) = lockoutSent s := by
    have open_ : PortRec.refusesFrames ((succeeded .chassis s).port .chassis) = false := by
      unfold PortRec.refusesFrames
      rw [show ((succeeded .chassis s).port .chassis).st = .active from active]
    unfold sent
    rw [setAt_none_endAttempt _ _ _ (by decide), open_]
    rfl
  have stays : settleDrained .chassis (lockoutSent s) = lockoutSent s :=
    settleDrained_not_quiescing _ fun h => by cases active.symm.trans h
  rw [endInSuccess_local (p := .chassis) attempt (by rw [source]; decide), source, localSuccess_eq, stale, gone, stays]
  rfl

/-- Settles O34: phase A at a lockout success and at the two notifications that test it. -/
theorem phaseAEndsOnItsThreeConditions : Obligations.PhaseAEndsOnItsThreeConditions := by
  unfold Obligations.PhaseAEndsOnItsThreeConditions
  refine ⟨fun s a f attempt source active held phase content => ?success, fun s r v phase role => ?notified⟩
  case success =>
    rw [exec_lockoutSuccess attempt source active held, onLockoutSuccess_a f.stale (s := lockoutSent s) phase]
    refine ⟨fun stale fresh => congrArg Host.Outcome.next ?stale, fun stale notDone => congrArg Host.Outcome.next ?waits,
      fun stale neutral slow => ?done⟩
    case stale =>
      have same : (lockoutSent s).setCtl { (lockoutSent s).ctl with
          confirmed := (lockoutSent s).ctl.confirmed || !f.stale } = lockoutSent s := by
        rw [stale, Bool.not_true, Bool.or_false]
        rfl
      rw [same, testPhaseA_unconfirmed (s := lockoutSent s) fresh]
      rfl
    case waits =>
      rw [stale, Bool.not_false, Bool.or_true]
      exact testPhaseA_stands (s := (lockoutSent s).setCtl { s.ctl with confirmed := true }) fun h => notDone h.2
    case done =>
      rw [stale, Bool.not_false, Bool.or_true]
      obtain ⟨mainB, mainC, roll, auxB⟩ :=
        testPhaseA_ends (s := (lockoutSent s).setCtl { s.ctl with confirmed := true }) ⟨rfl, neutral, slow⟩ content
      exact ⟨fun app fb => congrArg Host.Outcome.next (mainB app fb),
        fun app fb guard creep => congrArg Host.Outcome.next (mainC app fb guard creep),
        fun app fb fast absent => congrArg Host.Outcome.next (roll app fb fast absent),
        fun app fb => congrArg Host.Outcome.next (auxB app fb)⟩
  case notified =>
    have tested : notify r v s = testPhaseA s := by
      rcases role with rfl | rfl
      · exact onEngineSpeed_a phase
      · exact onCurrentRange_a phase
    rw [tested]
    exact ⟨testPhaseA_stands, testPhaseA_ends⟩

/-- Settles O35: phase B and phase C of the main engagement, and phase B of the auxiliary one. -/
theorem engagementsReachTheirDrive : Obligations.EngagementsReachTheirDrive := by
  unfold Obligations.EngagementsReachTheirDrive
  intro s
  refine ⟨fun app phase expired low content guard creep => ?mainC, fun w app phase range content guard creep => ?pump,
    fun app phase expired low content fast absent => ?roll⟩
  case mainC =>
    have changed : debounced .mainFb s = { s with ctl := { s.ctl with mainFb := ⟨true, true, none⟩ } } := by
      simp only [debounced, Controller.setInput, Controller.input, low]
    have entered : onMainFb (debounced .mainFb s) = enterMainC (debounced .mainFb s) := by
      rw [changed]
      simp only [onMainFb, app, phase, if_true]
    refine (exec_debounced (i := .mainFb) expired).trans (congrArg Host.Outcome.next (entered.trans ?_))
    have other : (debounced .mainFb s).ceil.content ≠ .holdPump := fun h => by cases content.symm.trans h
    rw [enterMainC_eq _ other guard creep, changed]
  case pump =>
    refine (onCurrentRange_c phase).trans ?_
    exact (if_pos (decide_eq_true range)).trans (enterPump_eq s content guard creep)
  case roll =>
    have changed : debounced .auxFb s = { s with ctl := { s.ctl with auxFb := ⟨true, true, none⟩ } } := by
      simp only [debounced, Controller.setInput, Controller.input, low]
    have entered : onAuxFb (debounced .auxFb s) = enterRoll (debounced .auxFb s) := by
      rw [changed]
      simp only [onAuxFb, app, phase, if_true]
    refine (exec_debounced (i := .auxFb) expired).trans (congrArg Host.Outcome.next (entered.trans ?_))
    have other : (debounced .auxFb s).ceil.content ≠ .restrict := fun h => by cases content.symm.trans h
    rw [enterRoll_eq _ other fast absent, changed]

end Sys2Proof.Proofs.Phases

/-! PROOF. The laws of the interlock and the ceiling unit: each entry leaves the record that its apparatus state has (R73, R75,
R105, R106, R112, R113, R117, R119). -/

namespace Sys2Proof.Proofs.DriveLaws

open Sys2Proof.Machine Sys2Proof.Safety Sys2Proof.Laws.Terms Sys2Proof.Proofs.Requests Sys2Proof.Proofs.Interlock
open Sys2Proof.Proofs.Phases

variable {s t : State}

/-- The laws of the drive outside UNLOADED, with the range that the entry into ROLL takes (R92, R117). -/
structure Sound (s : State) : Prop where
  ctl : ControllerCoherent s.ctl
  ceil : CeilingCoherent s.ctl s.ceil
  range : RangeAllowed s
  loaded : s.ctl.app ≠ .unloaded
  neutral : s.tables.active.params.neutral ∈ s.tables.active.params.rollSet

theorem sound_of_same (h : Sound s) (ctl : t.ctl = s.ctl) (ceil : t.ceil = s.ceil) (tables : t.tables = s.tables) :
    Sound t := by
  obtain ⟨c, u, range, loaded, neutral⟩ := h
  refine ⟨by rwa [ctl], by rwa [ctl, ceil], ?_, by rwa [ctl], by rwa [tables]⟩
  unfold RangeAllowed at range ⊢
  rwa [ctl, ceil, tables]

/-- Either outcome of a test is sound. -/
theorem Sound.ite {c : Prop} [Decidable c] (h : Sound s) (g : Sound t) : Sound (if c then s else t) := by
  split
  · exact h
  · exact g

/-! ## What stands clear in a state (R75) -/

theorem guard_clear {c : Controller} (h : ControllerCoherent c) (app : c.app ≠ .pump) : c.guard = false ∧ c.creep = none :=
  ⟨Bool.eq_false_iff.mpr (mt h.guard app), Option.not_isSome_iff_eq_none.mp (mt h.creep app)⟩

theorem roll_clear {c : Controller} (h : ControllerCoherent c) (app : c.app ≠ .roll) :
    c.overspeed = false ∧ c.speedAbsent = false :=
  ⟨Bool.eq_false_iff.mpr (mt h.overspeed app), Bool.eq_false_iff.mpr (mt h.speedAbsent app)⟩

theorem mismatch_clear {c : Controller} (h : ControllerCoherent c) (app : c.app ≠ .road) : c.mismatch = false :=
  Bool.eq_false_iff.mpr (mt h.mismatch app)

theorem rangeAllowed_of_not_roll (app : s.ctl.app ≠ .roll) : RangeAllowed s := fun h => absurd h app

/-! ## Disengaging and its ends (R98 to R102) -/

theorem backInRoad_sound (h : Sound s) (app : s.ctl.app ≠ .road) : Sound (backInRoad s) where
  ctl := by
    have mismatch := mismatch_clear h.ctl app
    have seeded := h.ctl.seeded
    constructor <;> simp [backInRoad, phasesOf, lampOf, mainAsserted, auxAsserted, mismatch, seeded]
  ceil := by constructor <;> simp [backInRoad, holdsDown, contentsOf]
  range := rangeAllowed_of_not_roll (by simp [backInRoad])
  loaded := by simp [backInRoad]
  neutral := h.neutral

/-- The laws but for the content, which the entry names next (R75). -/
structure Unnamed (s : State) : Prop where
  ctl : ControllerCoherent s.ctl
  range : s.ceil.e ≤ 1000
  down : holdsDown s.ctl.app = true → s.ceil.e = 0
  reassert : s.ceil.reassert.isSome ↔ s.ceil.content ≠ .notEmitting
  protection : s.ceil.protection = true → s.ctl.app = .pump ∨ s.ctl.app = .roll
  loaded : s.ctl.app ≠ .unloaded
  neutral : s.tables.active.params.neutral ∈ s.tables.active.params.rollSet

theorem Sound.unnamed (h : Sound s) : Unnamed s :=
  ⟨h.ctl, h.ceil.range, h.ceil.down, h.ceil.reassert, h.ceil.protection, h.loaded, h.neutral⟩

theorem holdingNeutral_ceil (h : s.ceil.reassert.isSome ↔ s.ceil.content ≠ .notEmitting) :
    ∃ n, (holdingNeutral s).ceil = { s.ceil with content := .holdNeutral, reassert := some n } := by
  unfold holdingNeutral
  split
  · rename_i same
    obtain ⟨n, running⟩ := Option.isSome_iff_exists.mp (h.mpr (by rw [same]; decide))
    exact ⟨n, by rw [← same, ← running]⟩
  · exact ⟨_, rfl⟩

@[simp] theorem holdingNeutral_tables (s : State) : (holdingNeutral s).tables = s.tables := by
  unfold holdingNeutral
  split <;> rfl

theorem holdingNeutral_sound (h : Unnamed s) (content : .holdNeutral ∈ contentsOf s.ctl) (app : s.ctl.app ≠ .roll) :
    Sound (holdingNeutral s) := by
  obtain ⟨n, named⟩ := holdingNeutral_ceil h.reassert
  refine ⟨?ctl, ?ceil, rangeAllowed_of_not_roll ?roll, ?loaded, ?neutral⟩
  case ctl => rw [holdingNeutral_ctl]; exact h.ctl
  case ceil =>
    rw [holdingNeutral_ctl, named]
    exact ⟨h.range, h.down, fun out => absurd out h.loaded, content, by simp, h.protection⟩
  case roll => rwa [holdingNeutral_ctl]
  case loaded => rw [holdingNeutral_ctl]; exact h.loaded
  case neutral => rw [holdingNeutral_tables]; exact h.neutral

/-- The record of a later phase of a disengaging (R98 to R101). -/
theorem disengaging_ctl {c : Controller} (h : ControllerCoherent c) (app : c.app = .disengaging) (n : Nat) :
    ControllerCoherent { c with phase := .d3, phaseTimer := some n, mainShift := false, auxClutch := false }
      ∧ (c.phase ≠ .d3 → ControllerCoherent { c with phase := .d2, phaseTimer := some n }) := by
  obtain ⟨phase, timer, origin, cause, release, main, aux, guard, creep, overspeed, speedAbsent, mismatch, seeded, unseeded,
    lamp, flash, steady⟩ := h
  have lampOff : c.lamp = .off := by rw [lamp, lampOf, app]
  constructor
  · constructor <;> simp_all [phasesOf, lampOf, mainAsserted, auxAsserted]
  · intro notD3
    constructor <;> simp_all [phasesOf, lampOf, mainAsserted, auxAsserted]

theorem inD3_sound (h : Unnamed s) (app : s.ctl.app = .disengaging) : Sound (inD3 s) := by
  have entered : Sound (holdingNeutral { s with ctl := { s.ctl with
      phase := .d3, phaseTimer := some (phaseLoad s.tables.active.params.tB), mainShift := false, auxClutch := false } }) := by
    refine holdingNeutral_sound { h with ctl := (disengaging_ctl h.ctl app _).1 } ?_ ?_
    · simp [contentsOf, app]
    · simp [app]
  exact .ite (backInRoad_sound entered (by rw [holdingNeutral_ctl]; simp [app])) entered

theorem inD2_sound (h : Unnamed s) (app : s.ctl.app = .disengaging) (phase : s.ctl.phase ≠ .d3) : Sound (inD2 s) := by
  have entered : Sound (holdingNeutral { s with ctl := { s.ctl with
      phase := .d2, phaseTimer := some (phaseLoad s.tables.active.params.tA) } }) := by
    refine holdingNeutral_sound { h with ctl := (disengaging_ctl h.ctl app _).2 phase } ?_ ?_
    · simp [contentsOf, app]
    · simp [app]
  exact .ite (inD3_sound entered.unnamed (by rw [holdingNeutral_ctl]; exact app)) entered

/-- The states from which a disengaging begins (R89, R90, R93, R96). -/
def Driving (app : AppState) : Prop := app = .mainEngaging ∨ app = .pump ∨ app = .auxEngaging ∨ app = .roll

theorem Driving.cases {app : AppState} (h : Driving app) :
    app ≠ .unloaded ∧ app ≠ .road ∧ app ≠ .disengaging ∧ app ≠ .faultHold := by
  rcases h with rfl | rfl | rfl | rfl <;> decide

theorem disengagingFrom_ctl {c : Controller} (h : ControllerCoherent c) (n : Nat) (cause : DisCause) :
    ControllerCoherent { c with
      app := .disengaging, phase := .d1, cause := some cause
      origin := some (if c.mainShift then .main else if c.auxClutch then .aux else .none)
      phaseTimer := some n, guard := false, creep := none, overspeed := false, speedAbsent := false, mismatch := false
      lamp := .off, lampHigh := false, flash := none } := by
  have notBoth := h.notBoth
  have seeded := h.seeded
  constructor
  case main => cases main : c.mainShift <;> cases aux : c.auxClutch <;> simp [mainAsserted]
  case aux => cases main : c.mainShift <;> cases aux : c.auxClutch <;> simp_all [auxAsserted]
  all_goals simp [phasesOf, lampOf, seeded]

/-- The content in force when a disengaging begins is one of the three that D1 may keep (R75). -/
theorem content_of_driving (h : Sound s) (app : Driving s.ctl.app) :
    s.ceil.content ∈ [Content.holdNeutral, .holdPump, .restrict] := by
  have content := h.ceil.content
  unfold contentsOf at content
  rcases app with app | app | app | app
  · rw [app] at content
    dsimp only at content
    split at content <;> simp_all
  all_goals simp_all

theorem disengagingFrom_sound (h : Sound s) (app : Driving s.ctl.app) (cause : DisCause) :
    Sound (disengagingFrom cause s) where
  ctl := disengagingFrom_ctl h.ctl _ cause
  ceil := by
    refine ⟨by simp [disengagingFrom], fun _ => rfl, nofun,
      by simpa [contentsOf, disengagingFrom] using content_of_driving h app, h.ceil.reassert, ?_⟩
    simp [disengagingFrom]
  range := rangeAllowed_of_not_roll (by simp [disengagingFrom])
  loaded := by simp [disengagingFrom]
  neutral := h.neutral

theorem disengagingThrough_sound (h : Sound s) (app : Driving s.ctl.app) (cause : DisCause) :
    Sound (disengagingThrough cause s) := by
  have begun := disengagingFrom_sound h app cause
  exact .ite (inD2_sound begun.unnamed rfl (by simp [disengagingFrom])) begun

theorem report_sound (h : Sound s) (c : Cause) (i : Option Nat) : Sound (report c i s) := sound_of_same h rfl rfl rfl

theorem disengageFor_sound (h : Sound s) (app : Driving s.ctl.app) (c : Cause) (i : Option Nat) :
    Sound (disengageFor c i s) := by
  rw [disengageFor_eq]
  exact disengagingThrough_sound (report_sound h c i) app _

theorem inFaultHold_sound (h : Sound s) : Sound (inFaultHold s) := by
  have seeded := h.ctl.seeded
  refine holdingNeutral_sound ⟨?_, by simp, fun _ => rfl, h.ceil.reassert, by simp, by simp, h.neutral⟩ (by simp [contentsOf])
    (by simp)
  have flashing : (if s.ctl.lamp = .flash then s.ctl.flash else some 500).isSome := by
    split
    · exact h.ctl.flash.mpr ‹_›
    · rfl
  constructor <;> simp [phasesOf, lampOf, mainAsserted, auxAsserted, seeded, flashing]

theorem inFaultHold_ctl (s : State) : (inFaultHold s).ctl.app = .faultHold := by
  unfold inFaultHold
  rw [holdingNeutral_ctl]

theorem enterFaultHold_sound (h : Sound s) : Sound (enterFaultHold s) := by
  rw [enterFaultHold_eq]
  split
  · exact backInRoad_sound (inFaultHold_sound h) (by rw [inFaultHold_ctl]; decide)
  · exact inFaultHold_sound h

/-! ## Tests for an end (R99 to R102) -/

theorem content_of_faultHold (h : Sound s) (app : s.ctl.app = .faultHold) : s.ceil.content = .holdNeutral := by
  have content := h.ceil.content
  simpa [contentsOf, app] using content

theorem content_of_late (h : Sound s) (app : s.ctl.app = .disengaging) (phase : s.ctl.phase ≠ .d1) :
    s.ceil.content = .holdNeutral := by
  have content := h.ceil.content
  simpa [contentsOf, app, phase] using content

theorem testFaultHold_sound (h : Sound s) (app : s.ctl.app = .faultHold) : Sound (testFaultHold s) := by
  have notRoad : s.ctl.app ≠ .road := by simp [app]
  rw [testFaultHold_eq s (mismatch_clear h.ctl notRoad) (content_of_faultHold h app)]
  split
  · exact backInRoad_sound h notRoad
  · exact h

theorem testD3_sound (h : Sound s) (app : s.ctl.app = .disengaging) (phase : s.ctl.phase = .d3) : Sound (testD3 s) := by
  have notRoad : s.ctl.app ≠ .road := by simp [app]
  rw [testD3_eq (mismatch_clear h.ctl notRoad) (content_of_late h app (by simp [phase]))]
  split
  · exact backInRoad_sound h notRoad
  · exact h

theorem enterD3_sound (h : Sound s) (app : s.ctl.app = .disengaging) : Sound (enterD3 s) := by
  rw [enterD3_eq s (.inl (mismatch_clear h.ctl (by simp [app])))]
  exact inD3_sound h.unnamed app

theorem enterD2_sound (h : Sound s) (app : s.ctl.app = .disengaging) (phase : s.ctl.phase = .d1) : Sound (enterD2 s) := by
  rw [enterD2_eq s (.inl (mismatch_clear h.ctl (by simp [app])))]
  exact inD2_sound h.unnamed app (by simp [phase])

theorem testD2_sound (h : Sound s) (app : s.ctl.app = .disengaging) : Sound (testD2 s) := by
  exact .ite (enterD3_sound h app) h

theorem testD1_sound (h : Sound s) (app : s.ctl.app = .disengaging) (phase : s.ctl.phase = .d1) : Sound (testD1 s) := by
  exact .ite (enterD2_sound h app phase) h

/-! ## The ceiling (R109 to R113) -/

theorem moveCeiling_le (e t r : Nat) (h : t ≤ 1000) : moveCeiling e t r ≤ 1000 := (moveCeiling_le_target e t r).trans h

/-- An evaluation keeps the unit's record, but for E and the protection in force. -/
theorem evaluateCeiling_ceil (s : State) : (evaluateCeiling s).ceil = { s.ceil with
    e := moveCeiling s.ceil.e s.target s.tables.active.params.rise, protection := s.protectionHolds } := by
  rw [evaluateCeiling_eq]
  split <;> rfl

theorem target_holdsDown (h : holdsDown s.ctl.app = true) : s.target = 0 := by
  have base : modeBase s.ctl.app s.tables.active.params = 0 := by
    cases app : s.ctl.app <;> simp_all [holdsDown, modeBase]
  exact Nat.le_zero.mp (base ▸ target_le_base s)

theorem evaluateCeiling_sound (h : Sound s) : Sound (evaluateCeiling s) := by
  have ceil := evaluateCeiling_ceil s
  refine ⟨?ctl, ?ceil, ?range, ?loaded, ?neutral⟩
  case ctl => rw [evaluateCeiling_ctl]; exact h.ctl
  case ceil =>
    rw [evaluateCeiling_ctl, ceil]
    refine ⟨moveCeiling_le _ _ _ (target_le_1000 s), fun down => ?_, fun out => absurd out h.loaded, h.ceil.content,
      h.ceil.reassert, fun holds => (PumpProtection.protectionHolds_iff.mp holds).1⟩
    dsimp only
    rw [target_holdsDown down, moveCeiling_to_zero]
  case range =>
    have range := h.range
    unfold RangeAllowed at range ⊢
    rwa [evaluateCeiling_ctl, evaluateCeiling_lastRange, evaluateCeiling_tables]
  case loaded => rw [evaluateCeiling_ctl]; exact h.loaded
  case neutral => rw [evaluateCeiling_tables]; exact h.neutral

/-! ## Engagements (R86 to R97) -/

theorem phaseA_ctl {c : Controller} (h : ControllerCoherent c) (road : c.app = .road) (n : Nat) {app : AppState}
    (engaging : app = .mainEngaging ∨ app = .auxEngaging) : ControllerCoherent { c with
      app := app, phase := .a, phaseTimer := some n, confirmed := false, mainShift := false, auxClutch := false
      lamp := .off, lampHigh := false, flash := none, guard := false, creep := none, overspeed := false
      speedAbsent := false, mismatch := false } := by
  have seeded := h.seeded
  have origin : c.origin = none := Option.not_isSome_iff_eq_none.mp (mt h.origin.mp (by simp [road]))
  have cause : c.cause = none := Option.not_isSome_iff_eq_none.mp (mt h.cause.mp (by simp [road]))
  rcases engaging with rfl | rfl
  all_goals constructor <;> simp [phasesOf, lampOf, mainAsserted, auxAsserted, seeded, origin, cause]

theorem enterPhaseA_sound (h : Sound s) (road : s.ctl.app = .road) {app : AppState}
    (engaging : app = .mainEngaging ∨ app = .auxEngaging) : Sound (enterPhaseA app s) := by
  have silent : s.ceil.content = .notEmitting := by simpa [contentsOf, road] using h.ceil.content
  have entered := phaseAHoldsTheTransmission
  unfold Obligations.PhaseAHoldsTheTransmission at entered
  rw [entered s app engaging (by rw [silent]; decide)]
  refine ⟨phaseA_ctl h.ctl road _ engaging, ?_, rangeAllowed_of_not_roll ?_, ?_, h.neutral⟩
  · refine ⟨by simp, fun _ => rfl, ?_, ?_, by simp, by simp⟩
    all_goals rcases engaging with rfl | rfl <;> simp [contentsOf]
  all_goals rcases engaging with rfl | rfl <;> simp

/-- The record of phase B, by the engagement (R87, R92). -/
theorem phaseB_ctl {c : Controller} (h : ControllerCoherent c) (n : Nat) :
    (c.app = .mainEngaging → ControllerCoherent { c with phase := .b, phaseTimer := some n, mainShift := true })
      ∧ (c.app = .auxEngaging → ControllerCoherent { c with phase := .b, phaseTimer := some n, auxClutch := true }) := by
  obtain ⟨phase, timer, origin, cause, release, main, aux, guard, creep, overspeed, speedAbsent, mismatch, seeded, unseeded,
    lamp, flash, steady⟩ := h
  constructor
  all_goals
    intro app
    have lampOff : c.lamp = .off := by rw [lamp, lampOf, app]
    constructor <;> simp_all [phasesOf, lampOf, mainAsserted, auxAsserted]

theorem inPhaseB_main_sound (h : Sound s) (app : s.ctl.app = .mainEngaging) (content : s.ceil.content = .holdNeutral) :
    Sound (inPhaseB true s.ctl.auxClutch s) := by
  refine ⟨(phaseB_ctl h.ctl _).1 app, ⟨h.ceil.range, h.ceil.down, h.ceil.transparent, ?_, h.ceil.reassert, h.ceil.protection⟩,
    rangeAllowed_of_not_roll ?_, h.loaded, h.neutral⟩
  · simp [contentsOf, inPhaseB, app, content]
  · simp [inPhaseB, app]

theorem inPhaseB_aux_sound (h : Sound s) (app : s.ctl.app = .auxEngaging) : Sound (inPhaseB s.ctl.mainShift true s) := by
  have content : s.ceil.content = .holdNeutral := by simpa [contentsOf, app] using h.ceil.content
  refine ⟨(phaseB_ctl h.ctl _).2 app, ⟨h.ceil.range, h.ceil.down, h.ceil.transparent, ?_, h.ceil.reassert, h.ceil.protection⟩,
    rangeAllowed_of_not_roll ?_, h.loaded, h.neutral⟩
  · simp [contentsOf, inPhaseB, app, content]
  · simp [inPhaseB, app]

/-- The record of phase C (R88). -/
theorem phaseC_ctl {c : Controller} (h : ControllerCoherent c) (app : c.app = .mainEngaging) (phase : c.phase ≠ .a) (n : Nat) :
    ControllerCoherent { c with phase := .c, phaseTimer := some n } := by
  obtain ⟨phases, timer, origin, cause, release, main, aux, guard, creep, overspeed, speedAbsent, mismatch, seeded, unseeded,
    lamp, flash, steady⟩ := h
  have lampOff : c.lamp = .off := by rw [lamp, lampOf, app]
  constructor <;> simp_all [phasesOf, lampOf, mainAsserted, auxAsserted]

/-- The record of PUMP, the guard flag and the creep timer clear (R94). -/
theorem pump_ctl {c : Controller} (h : ControllerCoherent c) (app : c.app = .mainEngaging) (creep : Option Nat) :
    ControllerCoherent { c with
      app := .pump, phase := .none, phaseTimer := none, mainShift := true, auxClutch := false, creep := creep
      overspeed := false, speedAbsent := false, mismatch := false, lamp := .on, lampHigh := true, flash := none } := by
  have seeded := h.seeded
  have guard := (guard_clear h (by simp [app])).1
  have origin : c.origin = none := Option.not_isSome_iff_eq_none.mp (mt h.origin.mp (by simp [app]))
  have cause : c.cause = none := Option.not_isSome_iff_eq_none.mp (mt h.cause.mp (by simp [app]))
  constructor <;> simp [phasesOf, lampOf, mainAsserted, auxAsserted, seeded, origin, cause, guard]

theorem creep_ctl {c : Controller} (h : ControllerCoherent c) (app : c.app = .pump) (creep : Option Nat) :
    ControllerCoherent { c with creep := creep } := { h with creep := fun _ => app }

/-- A controller's record that keeps the state, the phase and what decides the content. -/
theorem setCtl_sound (h : Sound s) {c : Controller} (coherent : ControllerCoherent c) (app : c.app = s.ctl.app)
    (phase : c.phase = s.ctl.phase) : Sound (s.setCtl c) := by
  obtain ⟨-, ⟨range, down, transparent, content, reassert, protection⟩, roll, loaded, neutral⟩ := h
  refine ⟨coherent, ⟨range, ?_, ?_, ?_, reassert, ?_⟩, ?_, ?_, neutral⟩
  · rwa [State.setCtl_ctl, app]
  · rwa [State.setCtl_ctl, app]
  · unfold contentsOf at content ⊢
    rwa [State.setCtl_ctl, app, phase]
  · rwa [State.setCtl_ctl, app]
  · unfold RangeAllowed at roll ⊢
    rwa [State.setCtl_ctl, app]
  · rwa [State.setCtl_ctl, app]

theorem testCreep_sound (h : Sound s) (app : s.ctl.app = .pump) : Sound (testCreep s) :=
  .ite (.ite h (.ite (disengageFor_sound h (.inr (.inl app)) _ _) (setCtl_sound h (creep_ctl h.ctl app _) rfl rfl)))
    (setCtl_sound h (creep_ctl h.ctl app _) rfl rfl)

theorem enterPump_sound (h : Sound s) (app : s.ctl.app = .mainEngaging) (phase : s.ctl.phase = .c) :
    Sound (enterPump s) := by
  obtain ⟨guard, creep⟩ := guard_clear h.ctl (by simp [app])
  have content : s.ceil.content = .holdPump := by simpa [contentsOf, app, phase] using h.ceil.content
  have notBool : (AppState.pump == AppState.roll) = false ∧ (AppState.pump == AppState.road) = false := by decide
  have entered : Sound (s.setCtl { s.ctl with
      app := .pump, phase := .none, phaseTimer := none, mainShift := true, auxClutch := false, creep := none
      overspeed := false, speedAbsent := false, mismatch := false, lamp := .on, lampHigh := true, flash := none }) :=
    ⟨pump_ctl h.ctl app none,
      ⟨h.ceil.range, nofun, nofun, by simp [contentsOf, content], h.ceil.reassert, fun _ => .inl rfl⟩,
      rangeAllowed_of_not_roll (by simp), by simp, h.neutral⟩
  have same : enterPump s = testCreep (evaluateCeiling (s.setCtl { s.ctl with
      app := .pump, phase := .none, phaseTimer := none, mainShift := true, auxClutch := false, creep := none
      overspeed := false, speedAbsent := false, mismatch := false, lamp := .on, lampHigh := true, flash := none })) := by
    unfold enterPump
    dsimp only
    rw [nameContent_same _ (by exact content)]
    simp only [Controller.changeApp, Controller.setLamp, guard, creep, notBool, Bool.and_false, Bool.false_and,
      Bool.false_eq_true, if_false, ite_self]
  rw [same]
  exact testCreep_sound (evaluateCeiling_sound entered) (by rw [evaluateCeiling_ctl]; rfl)

theorem testMainC_sound (h : Sound s) (app : s.ctl.app = .mainEngaging) (phase : s.ctl.phase = .c) : Sound (testMainC s) :=
  .ite (enterPump_sound h app phase) h

theorem enterMainC_sound (h : Sound s) (app : s.ctl.app = .mainEngaging) (phase : s.ctl.phase = .b) :
    Sound (enterMainC s) := by
  have content : s.ceil.content = .holdNeutral := by simpa [contentsOf, app, phase] using h.ceil.content
  have named := nameHoldPump_eq (s.setCtl { s.ctl with phase := .c, phaseTimer := some (phaseLoad s.tables.active.params.tC) })
    fun other => by cases content.symm.trans other
  unfold enterMainC
  dsimp only
  rw [named]
  refine testMainC_sound ⟨phaseC_ctl h.ctl app (by simp [phase]) _, ?_, rangeAllowed_of_not_roll ?_, h.loaded, h.neutral⟩
    app rfl
  · exact ⟨h.ceil.range, h.ceil.down, h.ceil.transparent, by simp [contentsOf, app], by simp, h.ceil.protection⟩
  · simp [app]

theorem enterMainB_sound (h : Sound s) (app : s.ctl.app = .mainEngaging) (phase : s.ctl.phase = .a) :
    Sound (enterMainB s) := by
  have content : s.ceil.content = .holdNeutral := by simpa [contentsOf, app, phase] using h.ceil.content
  have entered := inPhaseB_main_sound h app content
  rw [enterMainB_eq content]
  exact .ite (enterMainC_sound entered app rfl) entered

/-- The record of ROLL, with the roll flags as they are set (R92, R97). -/
theorem roll_ctl {c : Controller} (h : ControllerCoherent c) (app : c.app = .auxEngaging) (overspeed absent : Bool) :
    ControllerCoherent { c with
      app := .roll, phase := .none, phaseTimer := none, mainShift := false, auxClutch := true, guard := false, creep := none
      overspeed := overspeed, speedAbsent := absent, mismatch := false, lamp := .on, lampHigh := true, flash := none } := by
  have seeded := h.seeded
  have origin : c.origin = none := Option.not_isSome_iff_eq_none.mp (mt h.origin.mp (by simp [app]))
  have cause : c.cause = none := Option.not_isSome_iff_eq_none.mp (mt h.cause.mp (by simp [app]))
  constructor <;> simp [phasesOf, lampOf, mainAsserted, auxAsserted, seeded, origin, cause]

theorem flags_ctl {c : Controller} (h : ControllerCoherent c) (app : c.app = .roll) (overspeed absent : Bool) :
    ControllerCoherent { c with overspeed := overspeed, speedAbsent := absent } :=
  { h with overspeed := fun _ => app, speedAbsent := fun _ => app }

theorem updateRollFlags_sound (h : Sound s) (app : s.ctl.app = .roll) : Sound (updateRollFlags s) := by
  have told {t : State} (c : Prop) [Decidable c] (k : Cause) (ht : Sound t) : Sound (if c then report k none t else t) :=
    .ite (report_sound ht k none) ht
  exact told _ _ (told _ _ (setCtl_sound h (flags_ctl h.ctl app _ _) rfl rfl))

theorem enterRoll_sound (h : Sound s) (app : s.ctl.app = .auxEngaging) : Sound (enterRoll s) := by
  have content : s.ceil.content = .holdNeutral := by simpa [contentsOf, app] using h.ceil.content
  obtain ⟨overspeed, absent⟩ := roll_clear h.ctl (by simp [app])
  rw [enterRoll_eq s (fun other => by cases content.symm.trans other) overspeed absent]
  have rolling (overspeed absent : Bool) (faults : FaultUnit) (place : Place) (n : Nat) : Sound { s with
      ctl := { s.ctl with
        app := .roll, phase := .none, phaseTimer := none, mainShift := false, auxClutch := true, guard := false, creep := none
        overspeed := overspeed, speedAbsent := absent, mismatch := false, lamp := .on, lampHigh := true, flash := none }
      ceil := { s.ceil with lastRange := s.tables.active.params.neutral, content := .restrict, reassert := some n }
      places := { s.places with lockout := place }
      faults := faults } :=
    ⟨roll_ctl h.ctl app overspeed absent,
      ⟨h.ceil.range, nofun, nofun, by simp [contentsOf], by simp, fun _ => .inr rfl⟩, fun _ => h.neutral, by simp, h.neutral⟩
  unfold inRoll
  refine evaluateCeiling_sound ?_
  split
  · exact rolling _ _ _ _ _
  · exact .ite (rolling _ _ _ _ _) (rolling _ _ _ _ _)

theorem enterAuxB_sound (h : Sound s) (app : s.ctl.app = .auxEngaging) : Sound (enterAuxB s) := by
  have content : s.ceil.content = .holdNeutral := by simpa [contentsOf, app] using h.ceil.content
  have entered := inPhaseB_aux_sound h app
  rw [enterAuxB_eq content]
  exact .ite (enterRoll_sound entered app) entered

theorem testPhaseA_sound (h : Sound s) (phase : s.ctl.phase = .a) : Sound (testPhaseA s) := by
  unfold testPhaseA
  split
  · split
    · exact enterMainB_sound h ‹_› phase
    · exact enterAuxB_sound h ‹_›
    · exact h
  · exact h

/-! ## Events (R66, R77, R78) -/

/-- The state to which a phase belongs (R73). -/
theorem app_of_phase {c : Controller} (h : ControllerCoherent c) :
    (c.phase = .c → c.app = .mainEngaging)
      ∧ (c.phase = .a ∨ c.phase = .b ∨ c.phase = .c → c.app = .mainEngaging ∨ c.app = .auxEngaging)
      ∧ (c.phase = .d1 ∨ c.phase = .d2 ∨ c.phase = .d3 → c.app = .disengaging) := by
  have phase := h.phase
  refine ⟨fun p => ?_, fun p => ?_, fun p => ?_⟩
  · cases app : c.app <;> simp [phasesOf, app, p] at phase ⊢
  · rcases p with p | p | p <;> cases app : c.app <;> simp [phasesOf, app, p] at phase ⊢
  · rcases p with p | p | p <;> cases app : c.app <;> simp [phasesOf, app, p] at phase ⊢

theorem driving_of_engaging {app : AppState} (h : app = .mainEngaging ∨ app = .auxEngaging) : Driving app := by
  rcases h with rfl | rfl
  · exact .inl rfl
  · exact .inr (.inr (.inl rfl))

theorem request_ctl {c : Controller} (h : ControllerCoherent c) (app : c.app ≠ .unloaded) (r : Request) :
    ControllerCoherent { c with lastReq := some r, seeded := true } :=
  { h with seeded := by simp, unseeded := fun out => absurd out app }

theorem requestEvent_sound (h : Sound s) (r : Request) : Sound (requestEvent r s) := by
  unfold requestEvent
  split
  · exact h
  · split
    · exact h
    · split
      · exact report_sound h _ _
      · exact enterPhaseA_sound h ‹_› (.inl rfl)
    · split
      · exact report_sound h _ _
      · exact enterPhaseA_sound h ‹_› (.inr rfl)
  case h_3 app | h_4 app | h_5 app | h_6 app =>
    have driving : Driving s.ctl.app := by simp [Driving, app]
    split
    all_goals first
      | exact h
      | exact report_sound h _ _
      | exact enterDisengaging_through .operator s ▸ disengagingThrough_sound h driving _
  · exact h
  · exact testFaultHold_sound h ‹_›

theorem takeRequestValue_sound (h : Sound s) (v : Int) : Sound (takeRequestValue v s) := by
  unfold takeRequestValue
  split
  · exact h
  · split
    · exact h
    · rename_i r _
      split
      · exact setCtl_sound h (request_ctl h.ctl h.loaded r) rfl rfl
      · rename_i seeded
        split
        · exact h
        · have coherent : ControllerCoherent { s.ctl with lastReq := some r } := by
            have same := request_ctl h.ctl h.loaded r
            rwa [← Bool.of_not_eq_false seeded] at same
          exact requestEvent_sound (setCtl_sound h coherent rfl rfl) r

theorem onRoadSpeed_sound (h : Sound s) : Sound (onRoadSpeed s) := by
  unfold onRoadSpeed
  split
  case h_1 app | h_2 app => exact .ite (disengageFor_sound h (driving_of_engaging (by simp [app])) _ _) h
  case h_3 app => exact testCreep_sound h app
  case h_4 app => exact updateRollFlags_sound h app
  all_goals exact h

theorem onEngineSpeed_sound (h : Sound s) : Sound (onEngineSpeed s) := by
  obtain ⟨-, -, late⟩ := app_of_phase h.ctl
  unfold onEngineSpeed
  split
  case h_1 phase => exact testPhaseA_sound h phase
  case h_2 phase => exact testD1_sound h (late (.inl phase)) phase
  all_goals exact h

theorem onCurrentRange_sound (h : Sound s) : Sound (onCurrentRange s) := by
  obtain ⟨inC, -, late⟩ := app_of_phase h.ctl
  unfold onCurrentRange
  split
  case h_1 phase => exact testPhaseA_sound h phase
  case h_2 phase => exact testMainC_sound h (inC phase) phase
  case h_3 phase => exact testD2_sound h (late (.inr (.inl phase)))
  case h_4 =>
    split
    · exact testFaultHold_sound h ‹_›
    · exact h
  all_goals exact h

theorem notify_sound (h : Sound s) (r : Role) (v : Option Int) : Sound (notify r v s) := by
  cases r with
  | roadSpeed => exact onRoadSpeed_sound h
  | engineSpeed => exact onEngineSpeed_sound h
  | currentRange => exact onCurrentRange_sound h
  | modeRequest =>
    cases v with
    | none => exact h
    | some v => exact takeRequestValue_sound h v
  | intakePressure => exact h

theorem guard_ctl {c : Controller} (h : ControllerCoherent c) (app : c.app = .pump) :
    ControllerCoherent ({ c with guard := false }.setLamp .on)
      ∧ ControllerCoherent ({ c with guard := true }.setLamp .flash) := by
  obtain ⟨phase, timer, origin, cause, release, main, aux, guard, creep, overspeed, speedAbsent, mismatch, seeded, unseeded,
    lamp, flash, steady⟩ := h
  constructor
  · constructor <;> simp_all [Controller.setLamp, phasesOf, lampOf, mainAsserted, auxAsserted]
  · rw [setLamp_flash]
    constructor
    case flash => split <;> simp_all
    all_goals simp_all [phasesOf, lampOf, mainAsserted, auxAsserted]

theorem setLamp_frame (c : Controller) (l : Lamp) : (c.setLamp l).app = c.app ∧ (c.setLamp l).phase = c.phase := by
  rw [Controller.setLamp_keeps]
  exact ⟨rfl, rfl⟩

theorem onPark_sound (h : Sound s) : Sound (onPark s) := by
  unfold onPark
  split
  case h_1 app => exact .ite h (disengageFor_sound h (.inl app) _ _)
  case h_2 app =>
    obtain ⟨off, on⟩ := guard_ctl h.ctl app
    obtain ⟨offApp, offPhase⟩ := setLamp_frame { s.ctl with guard := false } .on
    obtain ⟨onApp, onPhase⟩ := setLamp_frame { s.ctl with guard := true } .flash
    exact .ite (evaluateCeiling_sound (setCtl_sound h off offApp offPhase))
      (evaluateCeiling_sound (report_sound (setCtl_sound h on onApp onPhase) _ _))
  all_goals exact h

theorem mismatch_ctl {c : Controller} (h : ControllerCoherent c) (app : c.app = .road) :
    ControllerCoherent ({ c with mismatch := true }.setLamp .flash)
      ∧ ControllerCoherent ({ c with mismatch := false }.setLamp .off) := by
  obtain ⟨phase, timer, origin, cause, release, main, aux, guard, creep, overspeed, speedAbsent, mismatch, seeded, unseeded,
    lamp, flash, steady⟩ := h
  constructor
  · rw [setLamp_flash]
    constructor
    case flash => split <;> simp_all
    all_goals simp_all [phasesOf, lampOf, mainAsserted, auxAsserted]
  · constructor <;> simp_all [Controller.setLamp, phasesOf, lampOf, mainAsserted, auxAsserted]

theorem roadFeedback_sound (h : Sound s) (app : s.ctl.app = .road) (i : Nat) (active : Bool) :
    Sound (roadFeedback i active s) := by
  obtain ⟨on, off⟩ := mismatch_ctl h.ctl app
  obtain ⟨onApp, onPhase⟩ := setLamp_frame { s.ctl with mismatch := true } .flash
  obtain ⟨offApp, offPhase⟩ := setLamp_frame { s.ctl with mismatch := false } .off
  exact .ite (report_sound (setCtl_sound h on onApp onPhase) _ _) (.ite (setCtl_sound h off offApp offPhase) h)

theorem onMainFb_sound (h : Sound s) : Sound (onMainFb s) := by
  unfold onMainFb
  dsimp only
  split
  case h_2 app => exact roadFeedback_sound h app _ _
  case h_3 app =>
    split
    case h_2 phase => exact .ite (enterMainC_sound h app phase) h
    case h_1 => exact .ite (disengageFor_sound h (.inl app) _ _) h
    case h_3 => exact .ite h (disengageFor_sound h (.inl app) _ _)
    all_goals exact h
  case h_4 app => exact .ite h (disengageFor_sound h (.inr (.inl app)) _ _)
  case h_5 app => exact .ite (disengageFor_sound h (.inr (.inr (.inl app))) _ _) h
  case h_6 app => exact .ite (disengageFor_sound h (.inr (.inr (.inr app))) _ _) h
  case h_7 app =>
    split
    · exact testD3_sound h app ‹_›
    · exact h
  case h_8 app => exact testFaultHold_sound h app
  case h_1 => exact h

theorem onAuxFb_sound (h : Sound s) : Sound (onAuxFb s) := by
  unfold onAuxFb
  dsimp only
  split
  case h_2 app => exact roadFeedback_sound h app _ _
  case h_3 app => exact .ite (disengageFor_sound h (.inl app) _ _) h
  case h_4 app => exact .ite (disengageFor_sound h (.inr (.inl app)) _ _) h
  case h_5 app =>
    split
    case h_2 => exact .ite (enterRoll_sound h app) h
    case h_1 => exact .ite (disengageFor_sound h (.inr (.inr (.inl app))) _ _) h
    all_goals exact h
  case h_6 app => exact .ite h (disengageFor_sound h (.inr (.inr (.inr app))) _ _)
  case h_7 app =>
    split
    · exact testD3_sound h app ‹_›
    · exact h
  case h_8 app => exact testFaultHold_sound h app
  case h_1 => exact h

theorem onInput_sound (h : Sound s) (i : InputId) : Sound (onInput i s) := by
  cases i with
  | parkSw => exact onPark_sound h
  | mainFb => exact onMainFb_sound h
  | auxFb => exact onAuxFb_sound h

theorem onLockoutSuccess_sound (h : Sound s) (stale : Bool) : Sound (onLockoutSuccess stale s) := by
  unfold onLockoutSuccess
  split
  case h_1 phase =>
    have confirmed : ControllerCoherent { s.ctl with confirmed := s.ctl.confirmed || !stale } := { h.ctl with }
    exact testPhaseA_sound (setCtl_sound h confirmed rfl rfl) phase
  all_goals exact h

theorem onPhaseTimer_sound (h : Sound s) : Sound (onPhaseTimer s) := by
  obtain ⟨-, engaging, late⟩ := app_of_phase h.ctl
  unfold onPhaseTimer
  split
  case h_1 => exact h
  case h_2 phase => exact disengageFor_sound h (driving_of_engaging (engaging (.inl phase))) _ _
  case h_3 phase => exact disengageFor_sound h (driving_of_engaging (engaging (.inr (.inl phase)))) _ _
  case h_4 phase => exact disengageFor_sound h (driving_of_engaging (engaging (.inr (.inr phase)))) _ _
  case h_5 phase => exact enterD2_sound (report_sound h _ _) (late (.inl phase)) phase
  case h_6 phase => exact enterD3_sound (report_sound h _ _) (late (.inr (.inl phase)))
  case h_7 => exact enterFaultHold_sound (report_sound h _ _)

theorem emitLockout_sound (h : Sound s) (emits : s.ceil.content ≠ .notEmitting) : Sound (emitLockout s) :=
  ⟨h.ctl, { h.ceil with reassert := ⟨fun _ => emits, fun _ => rfl⟩ }, h.range, h.loaded, h.neutral⟩

theorem guardEffect_sound (h : Sound s) (code : Nat) : Sound (guardEffect code s) := by
  unfold guardEffect
  split
  case h_1 app => exact ⟨h.ctl, { h.ceil with }, rangeAllowed_of_not_roll (by simp [app]), h.loaded, h.neutral⟩
  case h_2 app =>
    split
    · rename_i allowed
      have content : s.ceil.content = .restrict := by simpa [contentsOf, app] using h.ceil.content
      refine ⟨h.ctl, ⟨h.ceil.range, h.ceil.down, h.ceil.transparent, ?_, ?_, h.ceil.protection⟩, fun _ => allowed.1, h.loaded,
        h.neutral⟩
      · simp [changeContent, emitLockout, contentsOf, app]
      · simp [changeContent, emitLockout]
    · exact h
  · exact h

theorem rewriteEffect_sound (h : Sound s) (r : FrameRecord) : Sound (rewriteEffect r s) := by
  unfold rewriteEffect
  split
  · exact guardEffect_sound h _
  · exact h

end Sys2Proof.Proofs.DriveLaws

/-! PROOF. A bank taken into force: what the neighbours do at an activation or a power-up load, as one record (R103, R104, R157,
R160). -/

namespace Sys2Proof.Proofs.BankTaken

open Sys2Proof.Machine Sys2Proof.Safety Sys2Proof.Laws.Terms Sys2Proof.Proofs.DriveLaws Sys2Proof.Proofs.Interlock
open Sys2Proof.Proofs.Resets Sys2Proof.Proofs.PeriodicFrames

variable {s : State}

/-- The record of the controller in ROAD as the mismatch test at the entry from UNLOADED leaves it (R103, R104). -/
def enteredRoad (c : Controller) : Controller :=
  let wrong := c.mainFb.active || c.auxFb.active
  { c with
    app := .road, mismatch := wrong, lamp := if wrong then .flash else .off, lampHigh := wrong
    flash := if wrong then some 500 else none }

/-- The reports of the mismatch test at the entry from UNLOADED (R103, R104). -/
def mismatchReports (s : State) : FaultUnit :=
  let one := if s.ctl.mainFb.active then s.faults.take .feedbackMismatch (some 0) .road s.clock else s.faults
  if s.ctl.auxFb.active then one.take .feedbackMismatch (some 1) .road s.clock else one

/-- A ceiling that has risen stays where it is in ROAD (R112). -/
theorem evaluateCeiling_risen (app : s.ctl.app = .road) (guard : s.ctl.guard = false) (fast : s.ctl.overspeed = false)
    (absent : s.ctl.speedAbsent = false) (e : s.ceil.e = 1000) (protection : s.ceil.protection = false) :
    evaluateCeiling s = s := by
  rw [evaluateCeiling_road s app guard fast absent, e, Nat.min_eq_left (Nat.le_add_right _ _), ← e, ← protection]

theorem changeApp_setLamp_eq {c : Controller} (h : ControllerCoherent c) (app : c.app = .unloaded) :
    Controller.setLamp { c.changeApp .road with
        phase := .none, phaseTimer := none, mainShift := false, auxClutch := false
        mismatch := (c.changeApp .road).mainFb.active || (c.changeApp .road).auxFb.active }
      (if c.mainFb.active || c.auxFb.active then .flash else .off) = enteredRoad c := by
  have phase : c.phase = .none := by simpa [phasesOf, app] using h.phase
  have timer : c.phaseTimer = none := Option.not_isSome_iff_eq_none.mp (mt h.timer.mp (by simp [phase]))
  have main : c.mainShift = false := Bool.eq_false_iff.mpr (mt h.main.mp (by simp [mainAsserted, app]))
  have aux : c.auxClutch = false := Bool.eq_false_iff.mpr (mt h.aux.mp (by simp [auxAsserted, app]))
  have lamp : c.lamp = .off := by rw [h.lamp, lampOf, app]
  have high : c.lampHigh = false := h.steady.1 lamp
  obtain ⟨guard, creep⟩ := guard_clear h (by simp [app])
  obtain ⟨fast, absent⟩ := roll_clear h (by simp [app])
  unfold enteredRoad Controller.changeApp
  cases wrong : c.mainFb.active || c.auxFb.active
  · simp [Controller.setLamp, phase, timer, main, aux, guard, creep, fast, absent]
  · simp [setLamp_flash, phase, timer, main, aux, guard, creep, fast, absent, lamp]

theorem leaveUnloaded_eq (h : ControllerCoherent s.ctl) (u : CeilingCoherent s.ctl s.ceil) (app : s.ctl.app = .unloaded) :
    leaveUnloaded s = { s with ctl := enteredRoad s.ctl, faults := mismatchReports s } := by
  have content : s.ceil.content = .notEmitting := by simpa [contentsOf, app] using u.content
  have protection : s.ceil.protection = false := Bool.eq_false_iff.mpr (mt u.protection (by simp [app]))
  obtain ⟨guard, creep⟩ := guard_clear h (by simp [app])
  obtain ⟨fast, absent⟩ := roll_clear h (by simp [app])
  have risen (faults : FaultUnit) : evaluateCeiling { s with ctl := enteredRoad s.ctl, faults := faults }
      = { s with ctl := enteredRoad s.ctl, faults := faults } :=
    evaluateCeiling_risen rfl guard fast absent (u.transparent app) protection
  have entered := changeApp_setLamp_eq h app
  unfold leaveUnloaded
  dsimp only [Controller.changeApp] at entered ⊢
  rw [entered, nameContent_same _ (by exact content)]
  unfold mismatchReports
  cases main : s.ctl.mainFb.active <;> cases aux : s.ctl.auxFb.active
  all_goals
    have main' : (enteredRoad s.ctl).mainFb.active = s.ctl.mainFb.active := rfl
    have aux' : (enteredRoad s.ctl).auxFb.active = s.ctl.auxFb.active := rfl
    simp only [State.setCtl_ctl, report_ctl, main', aux', main, aux, if_true, if_false, Bool.false_eq_true]
    exact risen _

/-- The request record cleared, as at each activation and load (R73). -/
theorem unseeded_ctl {c : Controller} (h : ControllerCoherent c) :
    ControllerCoherent { c with seeded := false, lastReq := none } :=
  { h with seeded := by simp, unseeded := fun _ => rfl }

theorem onTablesTaken_eq (h : ControllerCoherent s.ctl) (u : CeilingCoherent s.ctl s.ceil) :
    onTablesTaken s =
      if s.ctl.app = .unloaded then
        { s with
          ctl := enteredRoad { s.ctl with seeded := false, lastReq := none }
          faults := mismatchReports s }
      else { s with ctl := { s.ctl with seeded := false, lastReq := none } } := by
  unfold onTablesTaken
  dsimp only
  by_cases app : s.ctl.app = .unloaded
  · rw [if_pos (by exact app), if_pos app]
    exact leaveUnloaded_eq (s := s.setCtl { s.ctl with seeded := false, lastReq := none }) (unseeded_ctl h) { u with } app
  · rw [if_neg (by exact app), if_neg app]
    rfl

/-- The neighbours' parts in one record (R157, R160). -/
theorem tablesTaken_eq (h : ControllerCoherent s.ctl) (u : CeilingCoherent s.ctl s.ceil) :
    tablesTaken s = bankTaken s.tables.active s := by
  unfold tablesTaken
  rw [resetComps_eq, resetSlots_eq, levelReport_eq, levelFrame_eq]
  refine (congrArg loadStatusTimer (onTablesTaken_eq (by exact h) (by exact u))).trans ?_
  by_cases app : s.ctl.app = .unloaded
  · rw [if_pos (by exact app)]
    simp [loadStatusTimer, bankTaken, statusLoad_eq, app, enteredRoad, mismatchReports, zeroHits]
    rfl
  · rw [if_neg (by exact app)]
    simp [loadStatusTimer, bankTaken, statusLoad_eq, app, zeroHits]

end Sys2Proof.Proofs.BankTaken

/-! PROOF. The laws of the interlock, the ceiling and the tables together, kept by every step: in UNLOADED the drive stands
still, elsewhere each entry is sound, and the engine holds a store's ACTIVATE just while it runs (chapters 4, 5, 7 and 8). -/

namespace Sys2Proof.Proofs.WholeLaws

open Sys2Proof.Machine Sys2Proof.Safety Sys2Proof.Proofs.DriveLaws Sys2Proof.Proofs.Interlock Sys2Proof.Proofs.Attempts
open Sys2Proof.Proofs.Traffic Sys2Proof.Proofs.Resets Sys2Proof.Proofs.BankTaken Sys2Proof.Proofs.Events
open Sys2Proof.Proofs.Accounts Sys2Proof.Proofs.EngineLaws

variable {s t : State} {p : Port}

/-- The laws of the interlock, the ceiling and the tables together. -/
structure Whole (s : State) : Prop where
  drive : DriveCoherent s
  tables : TablesCoherent s
  range : RangeAllowed s

/-! ## A valid bank (R155) -/

theorem firstFailure_none {l : List (Option Failure)} (h : firstFailure l = none) {x : Option Failure} (hx : x ∈ l) :
    x = none := by
  induction l with
  | nil => cases hx
  | cons y l ih =>
    cases y with
    | some f => cases h
    | none =>
      rcases List.mem_cons.mp hx with rfl | later
      · rfl
      · exact ih h later

/-- A valid bank's neutral code is a code of its roll set (R155 step 4). -/
theorem neutral_of_valid {b : Bank} (h : validate b = none) : b.params.neutral ∈ b.params.rollSet := by
  have params : checkParams b.params = none := firstFailure_none h (by simp)
  have member := firstFailure_none params (List.mem_cons_of_mem _ List.mem_cons_self)
  by_contra out
  simp [failWhen, out] at member

/-! ## What the laws speak of -/

/-- What the tables' laws say of the engine (R160, R168). -/
structure EngineFits (s : State) : Prop where
  loading : s.tables.origin = .loading → s.engine.inService = none ∧ s.engine.restart = none
  storing : s.tables.storing = true ↔ ∃ v, s.engine.inService = some v ∧ v.stage = .storing

theorem Whole.fits (h : Whole s) : EngineFits s := ⟨fun loading => (h.tables.loading loading).2, h.tables.storing⟩

theorem Whole.sound (h : Whole s) (app : s.ctl.app ≠ .unloaded) : Sound s :=
  ⟨h.drive.1, h.drive.2, h.range, app, neutral_of_valid (h.tables.valid app)⟩

/-- A state that agrees in the drive's records and the tables' keeps the laws while the engine fits them. -/
theorem whole_of_kept (h : Whole s) (ctl : t.ctl = s.ctl) (ceil : t.ceil = s.ceil) (bank : t.tables.active = s.tables.active)
    (store : t.tables.store = s.tables.store) (origin : t.tables.origin = s.tables.origin)
    (marker : t.tables.marker = s.tables.marker) (storing : t.tables.storing = s.tables.storing) (fits : EngineFits t) :
    Whole t := by
  obtain ⟨⟨drive, unit⟩, tables, range⟩ := h
  refine ⟨⟨by rwa [ctl], by rwa [ctl, ceil]⟩, ⟨?_, ?_, ?_, ?_, ?_, fun loading => ⟨?_, fits.loading loading⟩, fits.storing, ?_⟩, ?_⟩
  · rw [marker, store]; exact tables.marker
  · rw [store]; exact tables.image
  · rw [ctl, origin]; exact tables.unloaded
  · rw [ctl, bank]; exact tables.cleared
  · rw [ctl, bank]; exact tables.valid
  · rw [store]; exact (tables.loading (origin ▸ loading)).1
  · rw [storing, origin]; exact tables.activated
  · unfold RangeAllowed at range ⊢
    rwa [ctl, ceil, bank]

theorem whole_of_traffic (h : Whole s) (frame : OnlyTraffic s t) (fits : EngineFits t) : Whole t :=
  whole_of_kept h frame.ctl frame.ceil frame.bank frame.store frame.origin frame.marker frame.storing fits

theorem engineFits_of_traffic (h : EngineFits s) (frame : OnlyTraffic s t) (engine : t.engine = s.engine) : EngineFits t := by
  refine ⟨?_, ?_⟩
  · rw [frame.origin, engine]; exact h.loading
  · rw [frame.storing, engine]; exact h.storing

theorem whole_of_frame (h : Whole s) (frame : OnlyTraffic s t) (engine : t.engine = s.engine) : Whole t :=
  whole_of_traffic h frame (engineFits_of_traffic h.fits frame engine)

/-- An event of the drive keeps the laws where it is sound, and in UNLOADED where it changes nothing. -/
theorem whole_of_drive (h : Whole s) (frame : OnlyDrive s t) (sound : Sound s → Sound t)
    (out : s.ctl.app = .unloaded → t = s) : Whole t := by
  by_cases app : s.ctl.app = .unloaded
  · rwa [out app]
  · obtain ⟨ctl, ceil, range, loaded, -⟩ := sound (h.sound app)
    have origin := mt h.tables.unloaded.mpr app
    refine ⟨⟨ctl, ceil⟩, ?_, range⟩
    refine ⟨?_, ?_, ⟨fun e => absurd e loaded, ?_⟩, fun e => absurd e loaded, fun _ => ?_, ?_, ?_, ?_⟩
    all_goals first | rw [frame.tables, frame.engine] | rw [frame.tables]
    · exact h.tables.marker
    · exact h.tables.image
    · exact fun e => absurd e origin
    · exact h.tables.valid app
    · exact h.tables.loading
    · exact h.tables.storing
    · exact h.tables.activated

/-! ## The service of requests (chapter 8) -/

theorem serveRequest_fits (f : Frame) (place : RespPlace) (fits : EngineFits s) (idle : s.engine.inService = none)
    (loaded : s.tables.origin ≠ .loading) : EngineFits (serveRequest f place s) := by
  have frame := serveRequest_onlyTraffic s f place
  have quiet : s.tables.storing ≠ true := fun running => by
    obtain ⟨v, served, -⟩ := fits.storing.mp running
    cases idle.symm.trans served
  have service : ∀ v, (serveRequest f place s).engine.inService = some v → v.stage = .validating := by
    have kind := serveKind_inService f place idle
    intro v served
    unfold serveRequest at served
    split at served
    · cases idle.symm.trans served
    · split at served
      all_goals
        rename_i e
        simp only [e] at kind
        rcases kind with none_ | ⟨-, -, some_⟩
        · cases none_.symm.trans served
        · cases some_.symm.trans served
          rfl
  refine ⟨fun loading => absurd (frame.origin.symm.trans loading) loaded, ?_⟩
  rw [frame.storing]
  refine ⟨fun running => absurd running quiet, fun ⟨v, served, stage⟩ => ?_⟩
  cases (service v served).symm.trans stage

theorem serveNext_fits (fits : EngineFits s) : EngineFits (serveNext s) := by
  rcases serveNext_cases s with ⟨same, -⟩ | ⟨b, f, place, -, -, may, served⟩
  · rwa [same]
  · rw [served]
    have loaded : s.tables.origin ≠ .loading := by
      simp only [State.mayServe, Bool.and_eq_true, bne_iff_ne] at may
      exact may.1.2
    have idle := mayServe_idle may
    refine serveRequest_fits f place ?_ (by cases b <;> exact idle) loaded
    cases b <;> exact ⟨fits.loading, fits.storing⟩

theorem serveWaiting_fits (fits : EngineFits s) : EngineFits (serveWaiting s) := serveNext_fits (serveNext_fits fits)

theorem serveWaiting_whole (h : Whole s) : Whole (serveWaiting s) :=
  whole_of_traffic h (serveWaiting_onlyTraffic s) (serveWaiting_fits h.fits)

theorem intake_whole (h : Whole s) (f : Frame) : Whole (intake f s) := by
  refine whole_of_traffic h (intake_onlyTraffic s f) ?_
  unfold intake
  split
  · rename_i b _
    refine serveWaiting_fits ?_
    cases b <;> exact ⟨h.fits.loading, h.fits.storing⟩
  · unfold busyResponder
    split
    · exact ⟨h.fits.loading, h.fits.storing⟩
    · exact ⟨h.fits.loading, h.fits.storing⟩

/-- With no service in progress and no store running, the engine fits once a load is over. -/
theorem engineFits_of_idle (idle : s.engine.inService = none) (quiet : s.tables.storing = false)
    (loaded : s.tables.origin ≠ .loading) : EngineFits s :=
  ⟨fun loading => absurd loading loaded, by simp [idle, quiet]⟩

theorem finishService_whole (v : Service) (r : Reply) (h : Whole { s with engine := { s.engine with inService := none } }) :
    Whole (finishService v r s) :=
  serveWaiting_whole (whole_of_frame h (respond_onlyTraffic _ _ _ _) rfl)

/-! ## Signals (chapter 3) -/

theorem notify_unloaded (app : s.ctl.app = .unloaded) (h : ControllerCoherent s.ctl) (r : Role) (v : Option Int) :
    notify r v s = s := by
  have phase : s.ctl.phase = .none := by simpa [phasesOf, app] using h.phase
  cases r with
  | roadSpeed => exact onRoadSpeed_stands (.inl app)
  | engineSpeed => simp [notify, onEngineSpeed, phase]
  | currentRange => simp [notify, onCurrentRange, phase, app]
  | modeRequest =>
    cases v with
    | none => rfl
    | some v => exact if_pos app
  | intakePressure => rfl

theorem notifyRoles_whole (h : Whole s) (i : Fin 32) (v : Option Int) : Whole (notifyRoles i v s) := by
  unfold notifyRoles
  generalize s.tables.active.roles.rolesAt i = l
  induction l generalizing s with
  | nil => exact h
  | cons r l ih =>
    exact ih (whole_of_drive h (notify_onlyDrive s r v) (fun sound => notify_sound sound r v) fun app =>
      notify_unloaded app h.drive.1 r v)

theorem setSlots_whole (h : Whole s) (v : Vector Slot 32) (faults : FaultUnit) :
    Whole { s with slots := v, faults := faults } :=
  whole_of_kept h rfl rfl rfl rfl rfl rfl rfl ⟨h.fits.loading, h.fits.storing⟩

theorem slotError_whole (h : Whole s) (i : Fin 32) (reload : Bool) : Whole (slotError i reload s) := by
  unfold slotError
  dsimp only
  split
  all_goals exact setSlots_whole h _ _

theorem updateEvent_whole (h : Whole s) (i : Fin 32) (u : Update) : Whole (updateEvent i u s) := by
  unfold updateEvent
  split
  · exact notifyRoles_whole (slotError_whole h i _) i _
  · exact notifyRoles_whole (setSlots_whole h _ s.faults) i _

theorem runExtractors_whole (h : Whole s) (xs : List Extractor) (f : Frame) : Whole (runExtractors xs f s) := by
  unfold runExtractors
  induction xs generalizing s with
  | nil => exact h
  | cons x xs ih => exact ih (updateEvent_whole h x.slot _)

/-! ## Arrivals and attempts (chapters 1 and 2) -/

theorem offer_engine (q : QueueId) (r : FrameRecord) (s : State) : (offer q r s).engine = s.engine := by
  unfold offer
  dsimp only
  repeat' split
  all_goals simp

theorem offer_whole (h : Whole s) (q : QueueId) (r : FrameRecord) : Whole (offer q r s) :=
  whole_of_frame h (offer_onlyTraffic s q r) (offer_engine q r s)

theorem classify_whole (h : Whole s) (f : Frame) : Whole (classify p f s) := by
  unfold classify
  split
  · exact offer_whole h _ _
  · split
    · split
      · exact offer_whole h _ _
      · exact h
    · rename_i i _
      have hit : Whole (countHit i s) := whole_of_frame h (setHits_onlyTraffic s _) rfl
      have extracted : Whole (if s.tables.active.fct[i].action.extracts then
          runExtractors s.tables.active.fct[i].extractors f (countHit i s) else countHit i s) := by
        split
        · exact runExtractors_whole hit _ f
        · exact hit
      dsimp only
      split
      · exact offer_whole extracted _ _
      · exact extracted

theorem setPort_whole (h : Whole s) (p : Port) (r : PortRec) : Whole (s.setPort p r) :=
  whole_of_frame h (setPort_onlyTraffic s p r) (by simp)

theorem arrive_whole (h : Whole s) (f : Frame) : Whole (arrive p f s) := by
  unfold arrive
  dsimp only
  split
  · split
    · exact intake_whole (setPort_whole h p _) f
    · exact classify_whole (setPort_whole h p _) f
  · exact h

theorem rewriteEffect_unloaded (app : s.ctl.app = .unloaded) (r : FrameRecord) : rewriteEffect r s = s := by
  unfold rewriteEffect
  split
  · unfold guardEffect
    rw [app]
  · rfl

theorem rewriteEffect_whole (h : Whole s) (r : FrameRecord) : Whole (rewriteEffect r s) :=
  whole_of_drive h (rewriteEffect_onlyDrive s r) (fun sound => rewriteEffect_sound sound r) fun app =>
    rewriteEffect_unloaded app r

theorem startAttempt_whole (h : Whole s) (p : Port) : Whole (startAttempt p s) := by
  unfold startAttempt
  split
  · exact h
  · split
    · exact h
    · split
      · exact h
      · exact setPort_whole (rewriteEffect_whole h _) p _
    · split
      · exact h
      · exact setPort_whole h p _

theorem settleDrained_whole (h : Whole s) (p : Port) : Whole (settleDrained p s) :=
  whole_of_frame h (settleDrained_onlyTraffic s p) (by simp)

theorem startCtl_coherent (c : Controller) {app : AppState} (h : app = .unloaded ∨ app = .road) :
    ControllerCoherent (startCtl c app) := by
  rcases h with rfl | rfl
  all_goals constructor <;> simp [startCtl, State.reset, phasesOf, lampOf, mainAsserted, auxAsserted]

theorem startCeiling_coherent (c : Controller) {app : AppState} (h : app = .unloaded ∨ app = .road) :
    CeilingCoherent (startCtl c app) State.reset.ceil := by
  rcases h with rfl | rfl
  all_goals constructor <;> simp [startCtl, State.reset, contentsOf, holdsDown]

theorem softReset_whole (h : Whole s) : Whole (softReset s) := by
  have unloaded : s.tables.origin.restartState = .unloaded ↔ s.ctl.app = .unloaded := by
    rw [h.tables.unloaded]
    cases s.tables.origin <;> simp [TableOrigin.restartState]
  have state : s.tables.origin.restartState = .unloaded ∨ s.tables.origin.restartState = .road := by
    cases s.tables.origin <;> simp [TableOrigin.restartState]
  have starts : (startCtl s.ctl s.tables.origin.restartState).app = s.tables.origin.restartState := rfl
  rw [softReset_eq]
  refine ⟨⟨startCtl_coherent _ state, startCeiling_coherent _ state⟩, ?_, rangeAllowed_of_not_roll ?_⟩
  · refine ⟨h.tables.marker, h.tables.image, ?_, fun out => ?_, fun loaded => ?_, fun loading => ?_, ?_, nofun⟩
    · exact unloaded.trans h.tables.unloaded
    · exact h.tables.cleared (unloaded.mp out)
    · exact h.tables.valid (mt unloaded.mpr loaded)
    · exact ⟨(h.tables.loading loading).1, rfl, rfl⟩
    · simp [State.reset]
  · rw [starts]
    rcases state with e | e <;> rw [e] <;> decide

theorem hardReset_whole (h : Whole s) (x : Straps) : Whole (hardReset x s) := by
  rw [hardReset_eq]
  refine ⟨⟨startCtl_coherent _ (.inl rfl), startCeiling_coherent _ (.inl rfl)⟩, ?_, nofun⟩
  refine ⟨rfl, h.tables.image, ?_, fun _ => rfl, fun loaded => absurd rfl loaded, fun loading => ?_, ?_, nofun⟩
  · cases s.tables.store.marker <;> simp [startCtl]
  · refine ⟨?_, rfl, rfl⟩
    by_contra clear
    simp [clear] at loading
  · simp [State.reset]

theorem onLockoutSuccess_unloaded (app : s.ctl.app = .unloaded) (h : ControllerCoherent s.ctl) (stale : Bool) :
    onLockoutSuccess stale s = s := by
  have phase : s.ctl.phase = .none := by simpa [phasesOf, app] using h.phase
  unfold onLockoutSuccess
  rw [phase]

theorem tellSuccess_whole (h : Whole s) (src : Source) (stale : Bool) : Whole (tellSuccess src stale s) := by
  unfold tellSuccess
  split
  · exact whole_of_drive h (onLockoutSuccess_onlyDrive s stale) (fun sound => onLockoutSuccess_sound sound stale) fun app =>
      onLockoutSuccess_unloaded app h.drive.1 stale
  · split
    · split
      · exact softReset_whole h
      · exact serveWaiting_whole h
    · exact serveWaiting_whole h
  all_goals exact h

theorem endInSuccess_whole (h : Whole s) (p : Port) : Whole (endInSuccess p s) := by
  have done : Whole (succeeded p s) := setPort_whole h p _
  rcases attempt_cases s p with idle | ⟨a, attempt, src⟩ | ⟨a, attempt, src⟩
  · rwa [endInSuccess_idle idle]
  · rw [endInSuccess_output attempt src]
    exact whole_of_frame done (recordSuccess_onlyTraffic _ p) (by simp [recordSuccess])
  · rw [endInSuccess_local attempt src, localSuccess_eq]
    have left : Whole (sent p a.source (succeeded p s)) :=
      whole_of_frame (setPort_whole done p _) (setPlaces_onlyTraffic _ _) rfl
    exact tellSuccess_whole (settleDrained_whole left p) _ _

theorem recordFailure_engine (p : Port) (s : State) : (recordFailure p s).engine = s.engine := by
  unfold recordFailure
  dsimp only
  split
  · rfl
  · split <;> simp

theorem serveIfFreed_whole (h : Whole s) (src : Source) : Whole (serveIfFreed src s) := by
  unfold serveIfFreed
  split
  · split
    · exact serveWaiting_whole h
    · exact h
  all_goals exact h

theorem endInFailure_whole (h : Whole s) (p : Port) : Whole (endInFailure p s) := by
  have counted : Whole (failed p s) := setPort_whole h p _
  have checked {u : State} (hu : Whole u) : Whole (settleDrained p (checkBusFault p u)) :=
    settleDrained_whole (whole_of_frame hu (checkBusFault_onlyTraffic u p) (checkBusFault_engine p u)) p
  rcases attempt_cases s p with idle | ⟨a, attempt, src⟩ | ⟨a, attempt, src⟩
  · rwa [endInFailure_idle idle]
  · rw [endInFailure_output attempt src]
    exact checked (whole_of_frame counted (recordFailure_onlyTraffic _ p) (recordFailure_engine p _))
  · rw [endInFailure_local attempt src]
    exact serveIfFreed_whole (checked (whole_of_frame counted (localFailure_onlyTraffic _ p _) (localFailure_engine p _ _))) _

theorem endInLoss_engine (p : Port) (s : State) : (endInLoss p s).engine = s.engine := by
  unfold endInLoss
  dsimp only
  split
  · rfl
  · simp

/-! ## Inputs, timers and the ceiling (chapters 4 and 5) -/

theorem setInput_coherent {c : Controller} (h : ControllerCoherent c) (i : InputId) (d : Debouncer) :
    ControllerCoherent (c.setInput i d) := by
  cases i <;> exact { h with }

theorem setInput_frame (c : Controller) (i : InputId) (d : Debouncer) :
    (c.setInput i d).app = c.app ∧ (c.setInput i d).phase = c.phase := by
  cases i <;> exact ⟨rfl, rfl⟩

/-- A changed record of the controller that keeps the state and phase. -/
theorem setCtl_whole (h : Whole s) {c : Controller} (coherent : ControllerCoherent c) (app : c.app = s.ctl.app)
    (phase : c.phase = s.ctl.phase) : Whole (s.setCtl c) := by
  obtain ⟨⟨-, unit⟩, tables, range⟩ := h
  refine ⟨⟨coherent, ?_⟩, ?_, ?_⟩
  · have contents : contentsOf c = contentsOf s.ctl := by simp only [contentsOf, app, phase]
    refine ⟨unit.range, ?_, ?_, ?_, unit.reassert, ?_⟩
    · rw [State.setCtl_ctl, app]; exact unit.down
    · rw [State.setCtl_ctl, app]; exact unit.transparent
    · rw [State.setCtl_ctl, contents]; exact unit.content
    · rw [State.setCtl_ctl, app]; exact unit.protection
  · refine ⟨tables.marker, tables.image, ?_, ?_, ?_, tables.loading, tables.storing, tables.activated⟩
    all_goals rw [State.setCtl_ctl, app]
    · exact tables.unloaded
    · exact tables.cleared
    · exact tables.valid
  · unfold RangeAllowed at range ⊢
    rw [State.setCtl_ctl, app]
    exact range

theorem setInput_whole (h : Whole s) (i : InputId) (d : Debouncer) : Whole (s.setCtl (s.ctl.setInput i d)) :=
  setCtl_whole h (setInput_coherent h.drive.1 i d) (setInput_frame _ i d).1 (setInput_frame _ i d).2

theorem onInput_unloaded (app : s.ctl.app = .unloaded) (i : InputId) : onInput i s = s := by
  cases i <;> simp [onInput, onPark, onMainFb, onAuxFb, app]

theorem onPhaseTimer_unloaded (app : s.ctl.app = .unloaded) (h : ControllerCoherent s.ctl) : onPhaseTimer s = s := by
  have phase : s.ctl.phase = .none := by simpa [phasesOf, app] using h.phase
  unfold onPhaseTimer
  rw [phase]

theorem evaluateCeiling_unloaded (app : s.ctl.app = .unloaded) (h : ControllerCoherent s.ctl)
    (u : CeilingCoherent s.ctl s.ceil) : evaluateCeiling s = s := by
  obtain ⟨guard, -⟩ := guard_clear h (by simp [app])
  obtain ⟨fast, absent⟩ := roll_clear h (by simp [app])
  have protection : s.ceil.protection = false := Bool.eq_false_iff.mpr (mt u.protection (by simp [app]))
  have holds : s.protectionHolds = false := by simp [State.protectionHolds, app]
  have target : s.target = 1000 := by simp [target_eq, app, guard, fast, absent, holds, modeBase]
  have e : s.ceil.e = 1000 := u.transparent app
  have moved : moveCeiling s.ceil.e s.target s.tables.active.params.rise = s.ceil.e := by
    rw [target, e, moveCeiling_rises le_rfl, Nat.min_eq_left (Nat.le_add_right _ _)]
  unfold evaluateCeiling
  dsimp only
  rw [moved, holds, if_neg (fun onset => Bool.noConfusion onset.1)]
  exact congrArg (fun b => { s with ceil := { s.ceil with protection := b } }) protection.symm

theorem setTimer_whole (h : Whole s) (n : Nat) : Whole { s with ceil := { s.ceil with timer := n } } :=
  ⟨⟨h.drive.1, { h.drive.2 with }⟩, { h.tables with }, h.range⟩

theorem flash_whole (h : Whole s) (expired : s.ctl.flash = some 0) (high : Bool) :
    Whole (s.setCtl { s.ctl with lampHigh := high, flash := some 500 }) := by
  have lamp : s.ctl.lamp = .flash := h.drive.1.flash.mp (by rw [expired]; rfl)
  exact setCtl_whole h { h.drive.1 with flash := by simp [lamp], steady := by simp [lamp] } rfl rfl

/-! ## Tables taken into force (chapter 7) -/

/-- The controller's record at the entry into ROAD from UNLOADED (R103, R104). -/
theorem enteredRoad_coherent {c : Controller} (h : ControllerCoherent c) (app : c.app = .unloaded) :
    ControllerCoherent (enteredRoad c) := by
  obtain ⟨phase, timer, origin, cause, release, main, aux, guard, creep, overspeed, speedAbsent, mismatch, seeded, unseeded,
    lamp, flash, steady⟩ := h
  unfold enteredRoad
  cases wrong : c.mainFb.active || c.auxFb.active
  all_goals constructor <;> simp_all [phasesOf, lampOf, mainAsserted, auxAsserted]

/-- A bank taken in ROAD or UNLOADED leaves the drive in ROAD (R157, R160). -/
theorem bankTaken_drive (bank : Bank) (h : DriveCoherent s) (app : s.ctl.app = .road ∨ s.ctl.app = .unloaded) :
    DriveCoherent (bankTaken bank s) ∧ (bankTaken bank s).ctl.app = .road := by
  obtain ⟨ctl, unit⟩ := h
  have cleared := unseeded_ctl ctl
  have content : s.ceil.content = .notEmitting := by rcases app with app | app <;> simpa [contentsOf, app] using unit.content
  have protection : s.ceil.protection = false := by
    refine Bool.eq_false_iff.mpr (mt unit.protection ?_)
    rcases app with app | app <;> simp [app]
  have inRoad : CeilingCoherent { s.ctl with app := .road } s.ceil :=
    ⟨unit.range, nofun, nofun, by simp [contentsOf, content], unit.reassert, by simp [protection]⟩
  rcases app with app | app
  · have taken : (bankTaken bank s).ctl = { s.ctl with seeded := false, lastReq := none } := by simp [bankTaken, app]
    refine ⟨⟨by rwa [taken], ?_⟩, by rw [taken]; exact app⟩
    rw [taken]
    exact { unit with }
  · have taken : (bankTaken bank s).ctl = enteredRoad { s.ctl with seeded := false, lastReq := none } := by
      simp [bankTaken, app, enteredRoad]
    refine ⟨⟨by rw [taken]; exact enteredRoad_coherent cleared app, ?_⟩, by rw [taken]; rfl⟩
    rw [taken]
    exact { inRoad with }

/-- A valid bank taken in ROAD or UNLOADED keeps the laws. -/
theorem bankTaken_whole (bank : Bank) (h : DriveCoherent s) (app : s.ctl.app = .road ∨ s.ctl.app = .unloaded)
    (active : s.tables.active = bank) (valid : validate bank = none) (marker : s.tables.marker = s.tables.store.marker)
    (image : s.tables.store.marker = true → validate s.tables.store.image = none)
    (origin : s.tables.origin = .loaded ∨ s.tables.origin = .activated) (quiet : s.tables.storing = false)
    (idle : ∀ v, s.engine.inService = some v → v.stage = .validating) : Whole (bankTaken bank s) := by
  obtain ⟨drive, road⟩ := bankTaken_drive bank h app
  refine ⟨drive, ⟨marker, image, ?_, ?_, fun _ => ?_, ?_, ?_, ?_⟩, rangeAllowed_of_not_roll (by rw [road]; decide)⟩
  · rw [road]
    rcases origin with e | e <;> simp [bankTaken, e]
  · rw [road]
    nofun
  · exact active ▸ valid
  · intro loading
    rcases origin with e | e <;> cases e.symm.trans loading
  · refine ⟨fun running => absurd running (Bool.eq_false_iff.mp quiet), fun ⟨v, served, stage⟩ => ?_⟩
    cases (idle v served).symm.trans stage
  · exact fun running => absurd running (Bool.eq_false_iff.mp quiet)

theorem completeValidation_whole (h : Whole s) {v : Service} (served : s.engine.inService = some v)
    (stage : v.stage = .validating) : Whole (completeValidation v s) := by
  have quiet : s.tables.storing = false := by
    refine Bool.eq_false_iff.mpr fun running => ?_
    obtain ⟨w, same, storing⟩ := h.fits.storing.mp running
    cases served.symm.trans same
    cases stage.symm.trans storing
  have loaded : s.tables.origin ≠ .loading := fun loading => by cases served.symm.trans (h.fits.loading loading).1
  have refused (c : Cause) (i : Option Nat) (r : Reply) : Whole (finishService v r (report c i s)) :=
    finishService_whole v r (whole_of_kept h rfl rfl rfl rfl rfl rfl rfl (engineFits_of_idle rfl quiet loaded))
  unfold completeValidation
  split
  · exact refused _ _ _
  · rename_i app
    split
    · exact refused _ _ _
    · rename_i valid
      have copied : activationCopy s = bankTaken s.tables.shadow
          { s with tables := { s.tables with active := s.tables.shadow, origin := .activated } } :=
        tablesTaken_eq (by exact h.drive.1) (by exact h.drive.2)
      have taken : Whole (activationCopy s) := by
        rw [copied]
        refine bankTaken_whole _ h.drive (not_not.mp app) rfl valid h.tables.marker h.tables.image (.inr rfl) quiet ?_
        intro w same
        cases served.symm.trans same
        exact stage
      have origin : (activationCopy s).tables.origin = .activated := by rw [copied]; rfl
      split
      · refine ⟨taken.drive, ⟨rfl, nofun, taken.tables.unloaded, taken.tables.cleared, taken.tables.valid, ?_, ?_, ?_⟩,
          taken.range⟩
        · intro loading
          cases origin.symm.trans loading
        · exact ⟨fun _ => ⟨_, rfl, rfl⟩, fun _ => rfl⟩
        · exact fun _ => origin
      · refine finishService_whole v _ (whole_of_kept taken rfl rfl rfl rfl rfl rfl rfl (engineFits_of_idle rfl ?_ ?_))
        · rw [copied]; exact quiet
        · rw [origin]; decide

theorem completeStore_whole (h : Whole s) {v : Service} (served : s.engine.inService = some v) (stage : v.stage = .storing)
    (equal : Bool) : Whole (completeStore v equal s) := by
  have activated : s.tables.origin = .activated := h.tables.activated (h.fits.storing.mpr ⟨v, served, stage⟩)
  have loaded : s.ctl.app ≠ .unloaded := mt h.tables.unloaded.mp (by rw [activated]; decide)
  unfold completeStore
  split
  · refine finishService_whole v _ ⟨h.drive, ⟨rfl, fun _ => h.tables.valid loaded, h.tables.unloaded, h.tables.cleared,
      h.tables.valid, ?_, by simp, nofun⟩, h.range⟩
    exact fun loading => by cases activated.symm.trans loading
  · refine finishService_whole v _ ⟨h.drive, ⟨h.tables.marker, h.tables.image, h.tables.unloaded, h.tables.cleared,
      h.tables.valid, ?_, by simp, nofun⟩, h.range⟩
    exact fun loading => by cases activated.symm.trans loading

theorem completeLoad_whole (h : Whole s) (loading : s.tables.origin = .loading) : Whole (completeLoad s) := by
  obtain ⟨marker, idle, -⟩ := h.tables.loading loading
  have quiet : s.tables.storing = false := by
    refine Bool.eq_false_iff.mpr fun running => ?_
    cases loading.symm.trans (h.tables.activated running)
  refine serveWaiting_whole ?_
  rw [tablesTaken_eq (by exact h.drive.1) (by exact h.drive.2)]
  refine bankTaken_whole _ h.drive (.inr (h.tables.unloaded.mpr (.inr loading))) rfl (h.tables.image marker) h.tables.marker
    h.tables.image (.inl rfl) quiet ?_
  intro v served
  cases idle.symm.trans served

/-! ## Every step -/

theorem countDown_isSome (t : Option Nat) : (countDown t).isSome = t.isSome := by cases t <;> rfl

theorem tick_coherent {c : Controller} (h : ControllerCoherent c) : ControllerCoherent c.tick := by
  refine { h with timer := ?_, creep := ?_, flash := ?_ }
  · simpa only [Controller.tick, countDown_isSome] using h.timer
  · simpa only [Controller.tick, countDown_isSome] using h.creep
  · simpa only [Controller.tick, countDown_isSome] using h.flash

theorem tick_whole (h : Whole s) : Whole (tick s) := by
  obtain ⟨⟨drive, unit⟩, tables, range⟩ := h
  refine ⟨⟨tick_coherent drive, ⟨unit.range, unit.down, unit.transparent, unit.content, ?_, unit.protection⟩⟩,
    ⟨tables.marker, tables.image, tables.unloaded, tables.cleared, tables.valid, fun loading => ?_, tables.storing,
      tables.activated⟩, range⟩
  · simpa only [tick, CeilingUnit.tick, countDown_isSome] using unit.reassert
  · obtain ⟨marker, idle, running⟩ := tables.loading loading
    exact ⟨marker, idle, by simp only [tick, Engine.tick, running, Option.map_none]⟩

theorem event_whole {c : Instr} (e : Event c s t) (h : Whole s) : Whole t := by
  have drive := h.drive.1
  cases e with
  | nothing => exact h
  | reset x _ => exact hardReset_whole h x
  | restart => exact softReset_whole h
  | arrival p f => exact arrive_whole h f
  | move q => exact whole_of_frame h (setQueue_onlyTraffic s q _) (by simp)
  | start p => exact startAttempt_whole h p
  | success p _ => exact endInSuccess_whole h p
  | failure p => exact endInFailure_whole h p
  | loss p => exact whole_of_frame h (endInLoss_onlyTraffic s p) (endInLoss_engine p s)
  | recovery p _ => exact whole_of_frame h (recover_onlyTraffic s p) (by simp [recover])
  | pin i low => exact setInput_whole h i _
  | input i =>
    exact whole_of_drive (setInput_whole h i _) (onInput_onlyDrive _ i) (fun sound => onInput_sound sound i) fun app =>
      onInput_unloaded app i
  | freshness i => exact notifyRoles_whole (slotError_whole h i _) i _
  | hold i _ => exact notifyRoles_whole (setSlots_whole h _ s.faults) i _
  | phaseTimer =>
    exact whole_of_drive h (onPhaseTimer_onlyDrive s) onPhaseTimer_sound fun app => onPhaseTimer_unloaded app drive
  | creep expired =>
    have pump : s.ctl.app = .pump := drive.creep (by rw [expired]; rfl)
    exact whole_of_drive h (disengageFor_onlyDrive s _ _) (fun sound => disengageFor_sound sound (.inr (.inl pump)) _ _)
      fun app => by cases pump.symm.trans app
  | ceiling =>
    have timed := setTimer_whole h 100
    exact whole_of_drive timed (evaluateCeiling_onlyDrive _) evaluateCeiling_sound fun app =>
      evaluateCeiling_unloaded app timed.drive.1 timed.drive.2
  | reassertion emits =>
    refine whole_of_drive h (emitLockout_onlyDrive s) (fun sound => emitLockout_sound sound emits) fun app => absurd ?_ emits
    simpa [contentsOf, app] using h.drive.2.content
  | evaluation k =>
    obtain ⟨tank, faults, level, e⟩ := evaluateComp_shape k (s.setComp k { s.tank.comps[k] with evalTimer := some 100 })
    rw [e]
    exact whole_of_kept h rfl rfl rfl rfl rfl rfl rfl ⟨h.fits.loading, h.fits.storing⟩
  | senderHold k => exact whole_of_kept h rfl rfl rfl rfl rfl rfl rfl ⟨h.fits.loading, h.fits.storing⟩
  | report => exact whole_of_kept h rfl rfl rfl rfl rfl rfl rfl ⟨h.fits.loading, h.fits.storing⟩
  | status => exact whole_of_kept h rfl rfl rfl rfl rfl rfl rfl ⟨h.fits.loading, h.fits.storing⟩
  | flash expired => exact flash_whole h expired _
  | validated v served stage => exact completeValidation_whole h served stage
  | stored v equal served stage => exact completeStore_whole h served stage equal
  | loaded loading => exact completeLoad_whole h loading
  | tick _ => exact tick_whole h

/-- Settles O58: each event is sound outside UNLOADED and stands still in it, and the outputs exclude one another. -/
theorem everyStepKeepsTheDriveLaws : Obligations.EveryStepKeepsTheDriveLaws := by
  unfold Obligations.EveryStepKeepsTheDriveLaws
  rintro s t ⟨drive, tables, range⟩ e
  have whole : Whole t := step_keeps (P := Whole)
    (fun s l h => whole_of_kept h rfl rfl rfl rfl rfl rfl rfl ⟨h.fits.loading, h.fits.storing⟩)
    (fun _ _ _ => event_whole) ⟨drive, tables, range⟩ e
  exact ⟨⟨whole.drive, whole.tables, whole.range⟩, whole.drive.1.notBoth⟩

end Sys2Proof.Proofs.WholeLaws

/-! PROOF. The answer to a management request: the bytes of a response and where it stands, for a request served at its arrival and
for one whose answer comes later (R166, R168, R169, R181). -/

namespace Sys2Proof.Proofs.Answers

open Sys2Proof.Machine Sys2Proof.Safety Sys2Proof.Laws.Terms

variable {s t : State} {d : List Byte} {r : Reply}

/-! ## The bytes of a response (R166, R181) -/

/-- The bytes of the response to a request frame. -/
def responseBytes (request : Frame) (r : Reply) : List Byte :=
  BitVec.ofNat 8 (kindCode request + 16 * r.status.code + 128 * bit r.clamped) :: requestTag request :: padBytes 6 r.result

theorem respond_eq (request : Frame) (place : RespPlace) (r : Reply) (s : State) :
    respond request place r s = answeredIn place (responseBytes request r) s := by
  cases place <;> rfl

/-- A service that ends answers in its claimed place and lets a waiting one begin (R165, R168). -/
theorem finishService_eq (v : Service) (r : Reply) (s : State) :
    finishService v r s = serveWaiting (answeredIn v.place (responseBytes v.request r)
      { s with engine := { s.engine with inService := none } }) := by
  unfold finishService
  rw [respond_eq]

/-! ## A request served at its arrival (R165, R166) -/

theorem serveRequest_bad {f : Frame} (place : RespPlace) (bad : badFrame f = true) :
    serveRequest f place s = answeredIn place (responseBytes f (.bare .badRequest)) s := by
  unfold serveRequest
  rw [if_pos bad, respond_eq]

theorem serveRequest_answered {f : Frame} {place : RespPlace} (good : badFrame f = false)
    (kind : serveKind f place s = (t, some r)) : serveRequest f place s = answeredIn place (responseBytes f r) t := by
  unfold serveRequest
  rw [if_neg (by rw [good]; decide), kind]
  exact respond_eq f place r t

theorem serveRequest_later {f : Frame} {place : RespPlace} (good : badFrame f = false)
    (kind : serveKind f place s = (t, none)) : serveRequest f place s = t := by
  unfold serveRequest
  rw [if_neg (by rw [good]; decide), kind]

theorem requestArrival_answered (ready : ReadyToServe s) (short : d.length ≤ 8)
    (good : badFrame (s.requestFrame d) = false)
    (kind : serveKind (s.requestFrame d) .first (tookRequest s) = (t, some r)) :
    requestArrival d s = answered (responseBytes (s.requestFrame d) r) t := by
  rw [requestArrival_ready ready d short, serveRequest_answered good kind]
  rfl

end Sys2Proof.Proofs.Answers

/-! PROOF. The management requests that change something, served at their arrival: copies and clearings, RESTART and ACTIVATE, and
a request that names no kind (R152, R156, R166, R170, R173, R178, R179). -/

namespace Sys2Proof.Proofs.Changes

open Sys2Proof.Machine Sys2Proof.Safety Sys2Proof.Laws.Terms Sys2Proof.Proofs.Answers

variable {s : State}

/-! ## Copies and clearings (R152, R170, R178, R179) -/

/-- The mask that the frame of CLEAR_FLAGS carries (R178, R182). -/
theorem flagMask_bytes (k tag : Byte) (mask : BitVec 24) :
    flagMask [k, tag, mask.setWidth 8, (mask >>> 8).setWidth 8, (mask >>> 16).setWidth 8] = mask := by
  apply BitVec.eq_of_toNat_eq
  simp [flagMask, dataByte, Nat.shiftRight_eq_div_pow]
  omega

theorem serveClearCounters_noGroup {d : List Byte} (h : 6 ≤ (dataByte d 2).toNat) :
    serveClearCounters d s = (s, .bare .badValue) := by
  unfold serveClearCounters
  split
  case h_7 => rfl
  all_goals omega

theorem clearCounters_answered (tag group : Byte) (ready : ReadyToServe s) :
    exec (.clearCounters tag group) s = .next (answered
      (responseBytes (s.requestFrame [11, tag, group]) (serveClearCounters [11, tag, group] (tookRequest s)).2)
      (serveClearCounters [11, tag, group] (tookRequest s)).1) :=
  congrArg Host.Outcome.next (requestArrival_answered (d := [11, tag, group]) ready (by simp) rfl rfl)

/-- Settles O49: each request by its effect, CLEAR_COUNTERS by its group. -/
theorem copyAndClearingsHaveOneEffect : Obligations.CopyAndClearingsHaveOneEffect := by
  unfold Obligations.CopyAndClearingsHaveOneEffect
  refine ⟨fun s tag ready => ⟨?copy, ?fault, fun mask => ?flags⟩, fun s tag group ready => ?counters⟩
  case copy => exact congrArg Host.Outcome.next (requestArrival_answered (d := [6, tag]) ready (by simp) rfl rfl)
  case fault => exact congrArg Host.Outcome.next (requestArrival_answered (d := [13, tag]) ready (by simp) rfl rfl)
  case flags =>
    have served := requestArrival_answered
      (d := [14, tag, mask.setWidth 8, (mask >>> 8).setWidth 8, (mask >>> 16).setWidth 8]) ready (by simp) rfl rfl
    refine congrArg Host.Outcome.next (served.trans ?_)
    unfold serveClearFlags
    dsimp only [State.requestFrame]
    rw [flagMask_bytes]
    rfl
  case counters =>
    dsimp only
    rw [clearCounters_answered tag group ready]
    by_cases noGroup : 6 ≤ group.toNat
    · rw [if_pos noGroup, serveClearCounters_noGroup (d := [11, tag, group]) noGroup]
      rfl
    · rw [if_neg noGroup]
      have groups : group = 0 ∨ group = 1 ∨ group = 2 ∨ group = 3 ∨ group = 4 ∨ group = 5 := by bv_omega
      rcases groups with rfl | rfl | rfl | rfl | rfl | rfl <;> rfl

/-! ## RESTART and ACTIVATE (R156, R173) -/

theorem serveRestart_eq (place : RespPlace) (s : State) : serveRestart place s =
    if s.ctl.app = .unloaded ∨ s.ctl.app = .road ∨ s.ctl.app = .faultHold then
      ({ s with engine := { s.engine with restart := some ⟨50, place⟩ } }, .ok [])
    else (s, .refusedMode) := by
  unfold serveRestart
  cases app : s.ctl.app <;> simp

theorem restart_answered (tag : Byte) (ready : ReadyToServe s) : exec (.restart tag) s = .next
    (if s.ctl.app = .unloaded ∨ s.ctl.app = .road ∨ s.ctl.app = .faultHold then
      answered [0x0F, tag, 0, 0, 0, 0, 0, 0]
        { tookRequest s with engine := { (tookRequest s).engine with restart := some ⟨50, .first⟩ } }
     else answers [0x5F, tag, 0, 0, 0, 0, 0, 0] s) := by
  have served := requestArrival_answered (d := [15, tag]) (t := (serveRestart .first (tookRequest s)).1)
    (r := (serveRestart .first (tookRequest s)).2) ready (by simp) rfl rfl
  refine congrArg Host.Outcome.next (served.trans ?_)
  rw [serveRestart_eq]
  by_cases app : s.ctl.app = .unloaded ∨ s.ctl.app = .road ∨ s.ctl.app = .faultHold
  · rw [if_pos app, if_pos (by exact app)]
    rfl
  · rw [if_neg app, if_neg (by exact app)]
    rfl

theorem activate_answered (tag store : Byte) (ready : ReadyToServe s) :
    let t := tookRequest s
    exec (.activate tag store) s = .next
      (if 2 ≤ store.toNat then answers [0x47, tag, 0, 0, 0, 0, 0, 0] s
       else if s.ctl.app = .road ∨ s.ctl.app = .unloaded then
        { t with engine := { t.engine with inService := (some
          ⟨⟨.extended, .data, 0x0C5AA100 + s.straps.node.setWidth 29, 3, [7, tag, store]⟩, .first, .validating⟩) } }
       else answered [0x57, tag, 0, 0, 0, 0, 0, 0] (report .activationRefused (some 0) t)) := by
  have served := requestArrival_ready ready [7, tag, store] (by simp)
  refine congrArg Host.Outcome.next (served.trans ?_)
  have kind : serveKind (s.requestFrame [7, tag, store]) .first (tookRequest s)
      = serveActivate (s.requestFrame [7, tag, store]) .first (tookRequest s) := rfl
  have flag : 1 < (dataByte (s.requestFrame [7, tag, store]).data 2).toNat ↔ 2 ≤ store.toNat := Iff.rfl
  unfold serveActivate at kind
  by_cases bad : 2 ≤ store.toNat
  · rw [if_pos (flag.mpr bad)] at kind
    rw [if_pos bad, serveRequest_answered rfl kind]
    rfl
  · rw [if_neg (mt flag.mp bad)] at kind
    rw [if_neg bad]
    by_cases app : s.ctl.app = .road ∨ s.ctl.app = .unloaded
    · rw [if_pos (by exact app)] at kind
      rw [if_pos app, serveRequest_later rfl kind]
      rfl
    · rw [if_neg (by exact app)] at kind
      rw [if_neg app, serveRequest_answered rfl kind]
      rfl

/-! ## A request that is none (R166) -/

/-- A frame that BAD_REQUEST may carry is answered so (R166). -/
theorem badFrame_of_badRequest {kind : FrameKind} {length : Nat} {data : List Byte}
    (h : badRequestFrame kind length data = true) (ident : Ident) :
    badFrame ⟨.extended, kind, ident, min length 8, data⟩ = true := by
  have lengths (code : Nat) : kindLength code = requiredLength code := by
    unfold kindLength requiredLength
    split <;> simp_all
  cases kind with
  | remote => rfl
  | data =>
    cases data with
    | nil => rfl
    | cons b rest =>
      unfold badRequestFrame at h
      unfold badFrame
      rw [lengths]
      cases least : requiredLength (b.toNat % 16) with
      | none => simp only [kindCode, dataByte, List.getD_cons_zero, least, Bool.or_true]
      | some n =>
        simp only [least] at h
        simp only [kindCode, dataByte, List.getD_cons_zero, least, h, Bool.or_true]

/-- The head byte of a BAD_REQUEST answer: the kind code found in the frame and the status (R181). -/
theorem badRequest_head (x : Byte) : BitVec.ofNat 8 (x.toNat % 16 + 16 * 2 + 128 * 0) = (x &&& 0x0F) ||| 0x20 := by
  revert x
  decide

theorem badRequest_answered {kind : FrameKind} {length : Nat} {data : List Byte} (ready : ReadyToServe s)
    (h : WellFormed (.badRequest kind length data) = true) :
    exec (.badRequest kind length data) s = .next
      (answers [(data.getD 0 0 &&& 0x0F) ||| 0x20, data.getD 1 0, 0, 0, 0, 0, 0, 0] s) := by
  obtain ⟨carried, bad⟩ : Frame.wellFormed ⟨.extended, kind, 0, length, data⟩ = true ∧ badRequestFrame kind length data = true := by
    simpa [WellFormed] using h
  have delivered := (Sys2Proof.Laws.Sendable.deliver_wellFormed
    (f := ⟨.extended, kind, s.nodeIdent 0x0C5AA100, length, data⟩) (by simpa [Frame.wellFormed] using carried)).1
  refine congrArg Host.Outcome.next ?_
  rw [delivered, arrive_ready ready _ rfl rfl, serveRequest_bad _ (badFrame_of_badRequest bad _)]
  unfold answers answered
  rw [← badRequest_head]
  rfl

/-- Settles O51: by the kind of the request. -/
theorem restartActivateAndBadRequestAtService : Obligations.RestartActivateAndBadRequestAtService := by
  unfold Obligations.RestartActivateAndBadRequestAtService
  exact ⟨fun s ready => ⟨fun tag => restart_answered tag ready, fun kind length data => badRequest_answered ready⟩,
    fun s tag store ready => activate_answered tag store ready⟩

end Sys2Proof.Proofs.Changes

/-! PROOF. PORT_CONTROL served at its arrival: the mode check, then the control by the port's state (R41, R44 to R46, R181). -/

namespace Sys2Proof.Proofs.PortControl

open Sys2Proof.Machine Sys2Proof.Safety Sys2Proof.Laws.Terms Sys2Proof.Proofs.Answers

variable {s : State} {p : Port}

theorem stopRefused_iff (s : State) (p : Port) :
    s.stopRefused p = true ↔ p = .chassis ∧ s.ctl.app ≠ .road ∧ s.ctl.app ≠ .unloaded := by
  simp [State.stopRefused]

/-- QUIESCE by the port's state (R41, R44). -/
theorem serveQuiesce_allowed (allowed : ¬s.stopRefused p = true) : serveQuiesce p s =
    (match (s.port p).st with
     | .active => stopIfDrained p (s.setPort p { s.port p with st := .quiescing })
     | .quiescing | .stopped => s
     | .busFault => s.setPort p { s.port p with
         quiescePending := true, ret := if (s.port p).ret = .active then .quiescing else (s.port p).ret },
     .ok []) := by
  unfold serveQuiesce
  rw [if_neg allowed]
  dsimp only
  cases st : (s.port p).st with
  | active => simp only [settleDrained_eq]
  | quiescing | stopped | busFault => rfl

/-- The attempt that a CUT leaves: a RESPONSE or BUSY frame's goes on (R45). -/
theorem brokenByCut_iff (src : Source) :
    src.brokenByCut = false ↔ src = .busy ∨ src = .response .first ∨ src = .response .second := by
  rcases src with _ | pl | _ | _ | _ | _
  case response => cases pl <;> simp [Source.brokenByCut]
  all_goals simp [Source.brokenByCut]

/-- The stop that a CUT makes (R45). -/
theorem cutPort_eq (p : Port) (s : State) : cutPort p s =
    { (s.setPort p { s.port p with
        st := .stopped, run := 0, recovery := none, quiescePending := false
        attempt := match (s.port p).attempt with
          | none => none
          | some a => if a.source = .busy ∨ a.source = .response .first ∨ a.source = .response .second then some a else none
      }).setQueue (queueToward p) { s.queue (queueToward p) with
        body := [], out := none
        flushed := (s.queue (queueToward p)).flushed + BitVec.ofNat 32
          ((s.queue (queueToward p)).body.length + if (s.queue (queueToward p)).out.isSome then 1 else 0) } with
      places :=
        if p = .chassis then { s.places with lockout := ⟨none, none⟩ }
        else { s.places with status := ⟨none, none⟩, level := ⟨none, none⟩ } } := by
  unfold cutPort
  dsimp only
  rw [State.setPort_queue]
  cases (s.port p).attempt with
  | none => cases p <;> rfl
  | some a =>
    simp only [← brokenByCut_iff]
    cases a.source.brokenByCut <;> cases p <;> rfl

theorem portOf_beyond {code : Nat} (h : 2 ≤ code) : portOf code = none := by
  unfold portOf
  split
  · omega
  · omega
  · rfl

theorem portControl_answered (tag port control : Byte) (ready : ReadyToServe s) :
    requestArrival [9, tag, port, control] s = answered
      (responseBytes (s.requestFrame [9, tag, port, control]) (servePortControl [9, tag, port, control] (tookRequest s)).2)
      (servePortControl [9, tag, port, control] (tookRequest s)).1 :=
  requestArrival_answered ready (by simp) rfl rfl

theorem portControl_badPort {port : Byte} (bad : 2 ≤ port.toNat) (tag control : Byte) (ready : ReadyToServe s) :
    requestArrival [9, tag, port, control] s = answers [0x49, tag, 0, 0, 0, 0, 0, 0] s := by
  have none_ : portOf (dataByte [9, tag, port, control] 2).toNat = none := portOf_beyond bad
  rw [portControl_answered tag port control ready]
  unfold servePortControl
  rw [none_]
  rfl

/-- Settles O50: by the port code, the mode check and the port's state. -/
theorem portControlActsByPortState : Obligations.PortControlActsByPortState := by
  unfold Obligations.PortControlActsByPortState
  intro s tag ready
  refine ⟨fun port bad => ?badPort, fun p port code => ?controls⟩
  case badPort =>
    exact ⟨congrArg Host.Outcome.next (portControl_badPort bad tag 0 ready),
      congrArg Host.Outcome.next (portControl_badPort bad tag 1 ready),
      congrArg Host.Outcome.next (portControl_badPort bad tag 2 ready)⟩
  dsimp only
  have quiesce : servePortControl [9, tag, port, 0] (tookRequest s) = serveQuiesce p (tookRequest s) := by
    subst code; cases p <;> rfl
  have cut : servePortControl [9, tag, port, 1] (tookRequest s) = serveCut p (tookRequest s) := by
    subst code; cases p <;> rfl
  have resume : servePortControl [9, tag, port, 2] (tookRequest s) = serveResume p (tookRequest s) := by
    subst code; cases p <;> rfl
  have quiesced := portControl_answered tag port 0 ready
  have cutOff := portControl_answered tag port 1 ready
  have resumed := portControl_answered tag port 2 ready
  rw [quiesce] at quiesced
  rw [cut] at cutOff
  rw [resume] at resumed
  have locked := stopRefused_iff (tookRequest s) p
  refine ⟨fun refused => ⟨congrArg Host.Outcome.next (quiesced.trans ?_), congrArg Host.Outcome.next (cutOff.trans ?_)⟩,
    fun allowed => congrArg Host.Outcome.next (quiesced.trans ?_),
    fun allowed => congrArg Host.Outcome.next (cutOff.trans ?_), congrArg Host.Outcome.next (resumed.trans ?_)⟩
  · unfold serveQuiesce
    rw [if_pos (locked.mpr refused)]
    rfl
  · unfold serveCut
    rw [if_pos (locked.mpr refused)]
    rfl
  · rw [serveQuiesce_allowed (mt locked.mp allowed)]
    rfl
  · unfold serveCut
    rw [if_neg (mt locked.mp allowed), cutPort_eq]
    rfl
  · unfold serveResume
    dsimp only
    cases st : ((tookRequest s).port p).st <;> rfl

end Sys2Proof.Proofs.PortControl

/-! PROOF. Table fields by number: each entry of a bank as the row of its fields, what a field shows of the row and what a write
makes of it (R149 to R151, R183). -/

namespace Sys2Proof.Proofs.FieldRows

open Sys2Proof.Machine Sys2Proof.Safety

/-! ## What a field takes (R150) -/

/-- The values that a field takes (R150, R183). -/
def Takes (sp : FieldSpec) (w : Int) : Prop :=
  match sp with
  | .num low high => low ≤ high → low ≤ w ∧ w ≤ high
  | .freshness => w = 0 ∨ (10 ≤ w ∧ w ≤ 10000)
  | .enum n => 0 ≤ w ∧ w < n
  | .binding => (0 ≤ w ∧ w ≤ 31) ∨ w = 255

theorem settle_takes {sp : FieldSpec} {v w : Int} {clamped : Bool} (h : sp.settle v = some (w, clamped)) : Takes sp w := by
  cases sp with
  | num low high =>
    cases h
    intro ordered
    unfold clampInt
    omega
  | freshness =>
    unfold FieldSpec.settle at h
    dsimp only at h
    split at h
    · cases h
      exact .inl rfl
    · split at h <;> cases h
      · exact .inl rfl
      · refine .inr ?_
        unfold clampInt
        omega
  | enum n =>
    unfold FieldSpec.settle at h
    dsimp only at h
    split at h <;> cases h
    assumption
  | binding =>
    unfold FieldSpec.settle at h
    dsimp only at h
    split at h <;> cases h
    assumption

/-! ## Rows of fields (R183) -/

/-- The fields by number read and write the row: each shows its place of the row, and a value that it takes is put there and
nowhere else. -/
structure RowOf {α : Type} (field : Nat → Option (FieldAccess α)) (row : α → List (FieldSpec × Int)) : Prop where
  shows : ∀ f x, (field f).map (fun a => (a.spec, a.get x)) = (row x)[f]?
  puts : ∀ f a w x, field f = some a → Takes a.spec w → row (a.set w x) = (row x).set f (a.spec, w)

/-! ## Codes of the fields (R183) -/

variable {w : Int}

theorem toNat_takes {low high : Int} (h : Takes (.num low high) w) (zero : 0 ≤ low) (ordered : low ≤ high) :
    ((w.toNat : Nat) : Int) = w := Int.toNat_of_nonneg (zero.trans (h ordered).1)

theorem yesCode_boolOf (h : Takes (.enum 2) w) : ((yesCode (boolOf w) : Nat) : Int) = w := by
  obtain ⟨low, high⟩ := h
  interval_cases w <;> rfl

theorem code_defaultActionOf (h : Takes (.enum 2) w) : (((defaultActionOf w).code : Nat) : Int) = w := by
  obtain ⟨low, high⟩ := h
  interval_cases w <;> rfl

theorem code_formatOf (h : Takes (.enum 2) w) : ((formatCode (formatOf w) : Nat) : Int) = w := by
  obtain ⟨low, high⟩ := h
  interval_cases w <;> rfl

theorem code_byteOrderOf (h : Takes (.enum 2) w) : (((byteOrderOf w).code : Nat) : Int) = w := by
  obtain ⟨low, high⟩ := h
  interval_cases w <;> rfl

theorem code_portSetOf (h : Takes (.enum 3) w) : (((portSetOf w).code : Nat) : Int) = w := by
  obtain ⟨low, high⟩ := h
  interval_cases w <;> rfl

theorem code_actionOf (h : Takes (.enum 6) w) : (((actionOf w).code : Nat) : Int) = w := by
  obtain ⟨low, high⟩ := h
  interval_cases w <;> rfl

theorem val_slotOf (low : 0 ≤ w) (high : w ≤ 31) : (((slotOf w).val : Nat) : Int) = w := by
  simp only [slotOf, Fin.ofNat]
  omega

theorem bindingCode_bindingOf (h : Takes .binding w) : bindingCode (bindingOf w) = w := by
  rcases h with ⟨low, high⟩ | rfl
  · unfold bindingOf
    rw [if_neg (by omega)]
    exact val_slotOf low high
  · rfl

theorem defaultAction_yesCode (d : DefaultAction) : yesCode (d = .block) = d.code := by cases d <;> rfl

theorem format_yesCode (x : Format) : yesCode (x = .extended) = formatCode x := by cases x <;> rfl

theorem order_code (o : ByteOrder) : orderCode o = o.code := by cases o <;> rfl

/-! ## The tables (R183) -/

theorem headerRow_eq (h : Header) : headerRow h =
    [coded 2 h.chassisDefault.code, coded 2 h.bodyDefault.code, number 0 100 h.statusPeriod, number 0 100 h.levelPeriod] := by
  simp only [headerRow, defaultAction_yesCode]

theorem header_row : RowOf headerField headerRow where
  shows f x := by
    rw [headerRow_eq]
    rcases Nat.lt_or_ge f 4 with few | many
    · interval_cases f <;> rfl
    · obtain ⟨n, rfl⟩ := Nat.exists_eq_add_of_le' many
      rfl
  puts f a w x h takes := by
    rw [headerRow_eq, headerRow_eq]
    unfold headerField at h
    split at h <;> cases h
    case h_1 | h_2 => simp [coded, code_defaultActionOf takes]
    all_goals simp [number, toNat_takes takes]

theorem extractorRow_eq (x : Extractor) : extractorRow x =
    [number 0 31 x.slot.val, number 0 63 x.field.start, number 1 16 x.field.width, coded 2 x.field.order.code] := by
  simp only [extractorRow, order_code]

theorem extractor_row : RowOf extractorField extractorRow where
  shows f x := by
    rw [extractorRow_eq]
    rcases Nat.lt_or_ge f 4 with few | many
    · interval_cases f <;> rfl
    · obtain ⟨n, rfl⟩ := Nat.exists_eq_add_of_le' many
      rfl
  puts f a w x h takes := by
    rw [extractorRow_eq, extractorRow_eq]
    unfold extractorField at h
    split at h <;> cases h
    case h_1 =>
      obtain ⟨low, high⟩ := takes (by decide)
      simp [number, val_slotOf low high]
    case h_4 => simp [coded, code_byteOrderOf takes]
    all_goals simp [number, toNat_takes takes]

/-- The fields of an FCT entry before those of its extractors. -/
def fctHead (e : FctEntry) : List (FieldSpec × Int) :=
  [coded 2 (yesCode e.enabled), coded 3 e.ports.code, coded 2 (formatCode e.format), number 0 536870911 e.base.toNat,
   number 0 536870911 e.mask.toNat, coded 32 e.modes.toNat, coded 6 e.action.code, coded 2 (yesCode e.latestOnly),
   number 0 63 e.edit.start, number 1 16 e.edit.width, coded 2 e.edit.order.code, number 1 65535 e.fullScale,
   number 0 2 e.extCount]

theorem fctRow_eq (e : FctEntry) : fctRow e = fctHead e ++ extractorRow e.ext0 ++ extractorRow e.ext1 := by
  simp only [fctRow, fctHead, format_yesCode, order_code]
  cases e.ports <;> cases e.action <;> rfl

theorem fctHead_length (e : FctEntry) : (fctHead e).length = 13 := rfl

theorem extractorRow_length (x : Extractor) : (extractorRow x).length = 4 := rfl

theorem fct_row : RowOf fctField fctRow where
  shows f x := by
    rw [fctRow_eq]
    simp only [fctHead, extractorRow_eq]
    rcases Nat.lt_or_ge f 21 with few | many
    · interval_cases f <;> rfl
    · obtain ⟨n, rfl⟩ := Nat.exists_eq_add_of_le' many
      simp [fctField]
  puts f a w x h takes := by
    rw [fctRow_eq, fctRow_eq]
    unfold fctField at h
    split at h
    case h_14 n _ _ _ _ _ _ _ _ _ _ _ _ _ =>
      split at h
      · obtain ⟨b, field, rfl⟩ := Option.map_eq_some_iff.mp h
        change fctHead x ++ extractorRow (b.set w x.ext0) ++ extractorRow x.ext1 = _
        rw [extractor_row.puts _ _ _ x.ext0 field takes, List.append_assoc, List.append_assoc,
          List.set_append_right _ _ (by rw [fctHead_length]; omega),
          List.set_append_left _ _ (by rw [fctHead_length, extractorRow_length]; omega), fctHead_length]
        rfl
      · split at h
        · obtain ⟨b, field, rfl⟩ := Option.map_eq_some_iff.mp h
          change fctHead x ++ extractorRow x.ext0 ++ extractorRow (b.set w x.ext1) = _
          rw [extractor_row.puts _ _ _ x.ext1 field takes,
            List.set_append_right _ _ (by rw [List.length_append, fctHead_length, extractorRow_length]; omega),
            List.length_append, fctHead_length, extractorRow_length]
          rfl
        · cases h
    all_goals cases h
    case h_1 | h_8 => simp [fctHead, coded, yesCode_boolOf takes]
    case h_2 => simp [fctHead, coded, code_portSetOf takes]
    case h_3 => simp [fctHead, coded, code_formatOf takes]
    case h_4 | h_5 =>
      obtain ⟨low, high⟩ := takes (by decide)
      simp [fctHead, number]
      omega
    case h_6 =>
      obtain ⟨low, high⟩ := takes
      simp [fctHead, coded]
      omega
    case h_7 => simp [fctHead, coded, code_actionOf takes]
    case h_11 => simp [fctHead, coded, code_byteOrderOf takes]
    all_goals simp [fctHead, number, toNat_takes takes]

theorem sdt_row : RowOf sdtField sdtRow where
  shows f x := by
    rcases Nat.lt_or_ge f 7 with few | many
    · interval_cases f <;> rfl
    · obtain ⟨n, rfl⟩ := Nat.exists_eq_add_of_le' many
      rfl
  puts f a w x h takes := by
    unfold sdtField at h
    split at h <;> cases h
    case h_2 | h_3 | h_4 => simp [sdtRow, integer]
    case h_5 =>
      have natural : 0 ≤ w := by unfold Takes at takes; dsimp only at takes; omega
      simp [sdtRow, Int.toNat_of_nonneg natural]
    all_goals simp [sdtRow, number, toNat_takes takes]

/-- The bindings of the role map, one field each, by the role's number (R183, table 3). -/
def bindingRow (m : RoleMap) : List (FieldSpec × Int) := m.list.map fun bound => (.binding, bindingCode bound)

theorem role_row : RowOf roleField bindingRow where
  shows f x := by
    rcases Nat.lt_or_ge f 5 with few | many
    · interval_cases f <;> rfl
    · obtain ⟨n, rfl⟩ := Nat.exists_eq_add_of_le' many
      rfl
  puts f a w x h takes := by
    unfold roleField at h
    split at h <;> cases h
    all_goals simp [bindingRow, RoleMap.list, bindingCode_bindingOf takes]

theorem toList_three {α : Type} (v : Vector α 3) : v.toList = [v[0], v[1], v[2]] := by
  obtain ⟨⟨l⟩, h⟩ := v
  match l, h with
  | [_, _, _], _ => rfl

theorem toList_four {α : Type} (v : Vector α 4) : v.toList = [v[0], v[1], v[2], v[3]] := by
  obtain ⟨⟨l⟩, h⟩ := v
  match l, h with
  | [_, _, _, _], _ => rfl

theorem toList_eight {α : Type} (v : Vector α 8) : v.toList = [v[0], v[1], v[2], v[3], v[4], v[5], v[6], v[7]] := by
  obtain ⟨⟨l⟩, h⟩ := v
  match l, h with
  | [_, _, _, _, _, _, _, _], _ => rfl

theorem param_row : RowOf paramField paramRow where
  shows f x := by
    rw [paramRow, toList_four]
    rcases Nat.lt_or_ge f 22 with few | many
    · interval_cases f <;> rfl
    · obtain ⟨n, rfl⟩ := Nat.exists_eq_add_of_le' many
      rfl
  puts f a w x h takes := by
    rw [paramRow, toList_four, paramRow, toList_four]
    unfold paramField at h
    split at h <;> cases h
    case h_20 => simp [integer]
    all_goals simp [number, rollCodeField, toNat_takes takes]

theorem template_row : RowOf templateField templateRow where
  shows f x := by
    rw [templateRow, toList_eight]
    simp only [format_yesCode, order_code]
    rcases Nat.lt_or_ge f 16 with few | many
    · interval_cases f <;> rfl
    · obtain ⟨n, rfl⟩ := Nat.exists_eq_add_of_le' many
      rfl
  puts f a w x h takes := by
    rw [templateRow, toList_eight, templateRow, toList_eight]
    simp only [format_yesCode, order_code]
    unfold templateField at h
    split at h <;> cases h
    case h_1 =>
      obtain ⟨low, high⟩ := takes (by decide)
      simp [number]
      omega
    case h_2 => simp [coded, code_formatOf takes]
    case h_14 | h_16 => simp [coded, code_byteOrderOf takes]
    case h_3 | h_12 | h_13 | h_15 => simp [number, toNat_takes takes]
    all_goals
      obtain ⟨low, high⟩ := takes (by decide)
      simp [number, templateByte]
      omega

theorem comp_row : RowOf compField compRow where
  shows f x := by
    rw [compRow, toList_three]
    rcases Nat.lt_or_ge f 17 with few | many
    · interval_cases f <;> rfl
    · obtain ⟨n, rfl⟩ := Nat.exists_eq_add_of_le' many
      rfl
  puts f a w x h takes := by
    rw [compRow, toList_three, compRow, toList_three]
    unfold compField at h
    split at h <;> cases h
    case h_1 | h_2 => simp [coded, yesCode_boolOf takes]
    case h_5 | h_7 | h_9 =>
      obtain ⟨low, high⟩ := takes (by decide)
      simp [number, senderSlotField, val_slotOf low high]
    case h_6 | h_8 | h_10 => simp [integer, senderOffsetField]
    all_goals simp [number, toNat_takes takes]

/-- The fields of a strap point (R183, table 7). -/
def strapRow (x : StrapPoint) : List (FieldSpec × Int) := [number 0 3000 x.h, number 0 65535 x.v]

theorem strap_row : RowOf strapField strapRow where
  shows f x := by
    rcases Nat.lt_or_ge f 2 with few | many
    · interval_cases f <;> rfl
    · obtain ⟨n, rfl⟩ := Nat.exists_eq_add_of_le' many
      rfl
  puts f a w x h takes := by
    unfold strapField at h
    split at h <;> cases h
    all_goals simp [strapRow, number, toNat_takes takes]

end Sys2Proof.Proofs.FieldRows

/-! PROOF. The fields of a bank by table, index and number: what each shows of its entry's row, and that a write puts its value
there and touches no other row (R149 to R151, R183). -/

namespace Sys2Proof.Proofs.BankFields

open Sys2Proof.Machine Sys2Proof.Safety Sys2Proof.Proofs.FieldRows

variable {b : Bank} {t i f t' i' : Nat} {w : Int}

/-! ## Entries of a bank -/

/-- The fields of an entry, seen as fields of the bank, show the entry's row. -/
theorem lift_shows {α : Type} {field : Nat → Option (FieldAccess α)} {row : α → List (FieldSpec × Int)} (h : RowOf field row)
    (f : Nat) (get : Bank → α) (set : α → Bank → Bank) (b : Bank) :
    ((field f).map (·.lift get set)).map (fun a => (a.spec, a.get b)) = (row (get b))[f]? := by
  rw [← h.shows, Option.map_map]
  rfl

theorem fieldRow_fct (h : i < 48) : fieldRow b 1 i = fctRow b.fct[i] := by simp [fieldRow, h]

theorem fieldRow_sdt (h : i < 32) : fieldRow b 2 i = sdtRow b.sdt[i] := by simp [fieldRow, h]

theorem fieldRow_roles (b : Bank) (i : Nat) :
    fieldRow b 3 i = ((bindingRow b.roles)[i]?.map fun x => [x]).getD [] := by
  simp only [fieldRow, bindingRow, RoleMap.list, List.getElem?_map, Option.map_map]
  rfl

theorem fieldRow_comps (h : i < 4) : fieldRow b 6 i = compRow b.comps[i] := by simp [fieldRow, h]

theorem fieldRow_straps (h : i < 64) : fieldRow b 7 i = strapRow b.straps[i] := by simp [fieldRow, h, strapRow]

/-! ## What a field shows -/

theorem role_shows (b : Bank) (i f : Nat) :
    (bankField 3 i f).map (fun a => (a.spec, a.get b)) = (fieldRow b 3 i)[f]? := by
  rw [fieldRow_roles]
  by_cases only : f = 0
  · simp only [bankField, only, if_true, lift_shows role_row]
    cases (bindingRow b.roles)[i]? <;> rfl
  · obtain ⟨n, rfl⟩ := Nat.exists_eq_succ_of_ne_zero only
    cases h : (bindingRow b.roles)[i]? <;> simp [bankField]

theorem bankField_shows (b : Bank) (t i f : Nat) :
    (bankField t i f).map (fun a => (a.spec, a.get b)) = (fieldRow b t i)[f]? := by
  match t with
  | 0 =>
    by_cases only : i = 0
    · simp only [bankField, fieldRow, only, if_true]
      exact lift_shows header_row f _ _ b
    · simp [bankField, fieldRow, only]
  | 1 =>
    by_cases h : i < 48
    · rw [fieldRow_fct h]
      simp only [bankField, h, dite_true]
      exact lift_shows fct_row f _ _ b
    · simp [bankField, fieldRow, h]
  | 2 =>
    by_cases h : i < 32
    · rw [fieldRow_sdt h]
      simp only [bankField, h, dite_true]
      exact lift_shows sdt_row f _ _ b
    · simp [bankField, fieldRow, h]
  | 3 => exact role_shows b i f
  | 4 =>
    by_cases only : i = 0
    · simp only [bankField, fieldRow, only, if_true]
      exact lift_shows param_row f _ _ b
    · simp [bankField, fieldRow, only]
  | 5 =>
    by_cases only : i = 0
    · simp only [bankField, fieldRow, only, if_true]
      exact lift_shows template_row f _ _ b
    · simp [bankField, fieldRow, only]
  | 6 =>
    by_cases h : i < 4
    · rw [fieldRow_comps h]
      simp only [bankField, h, dite_true]
      exact lift_shows comp_row f _ _ b
    · simp [bankField, fieldRow, h]
  | 7 =>
    by_cases h : i < 64
    · rw [fieldRow_straps h]
      simp only [bankField, h, dite_true]
      exact lift_shows strap_row f _ _ b
    · simp [bankField, fieldRow, h]
  | t + 8 => simp [bankField, fieldRow]

/-! ## What a write touches -/

/-- Two rows of a bank before and after a change at one place. -/
def RowPut (before after : Bank) (t i : Nat) (row : List (FieldSpec × Int)) : Prop :=
  ∀ t' i', fieldRow after t' i' = if t' = t ∧ i' = i then row else fieldRow before t' i'

/-- The rows of a table depend on the bank's part that the table shows alone. -/
theorem fieldRow_congr {b c : Bank} {t i : Nat} (header : t = 0 → c.header = b.header) (fct : t = 1 → c.fct = b.fct)
    (sdt : t = 2 → c.sdt = b.sdt) (roles : t = 3 → c.roles = b.roles) (params : t = 4 → c.params = b.params)
    (template : t = 5 → c.template = b.template) (comps : t = 6 → c.comps = b.comps)
    (straps : t = 7 → c.straps = b.straps) : fieldRow c t i = fieldRow b t i := by
  match t with
  | 0 => simp only [fieldRow, header rfl]
  | 1 => simp only [fieldRow, fct rfl]
  | 2 => simp only [fieldRow, sdt rfl]
  | 3 => simp only [fieldRow, roles rfl]
  | 4 => simp only [fieldRow, params rfl]
  | 5 => simp only [fieldRow, template rfl]
  | 6 => simp only [fieldRow, comps rfl]
  | 7 => simp only [fieldRow, straps rfl]
  | t + 8 => rfl

/-- A bank that differs from another in one table, and there at one index alone, has one row put. -/
theorem rowPut_of {b c : Bank} {t i : Nat} {row : List (FieldSpec × Int)} (here : fieldRow c t i = row)
    (beside : ∀ i', i' ≠ i → fieldRow c t i' = fieldRow b t i') (header : t ≠ 0 → c.header = b.header := by simp)
    (fct : t ≠ 1 → c.fct = b.fct := by simp) (sdt : t ≠ 2 → c.sdt = b.sdt := by simp)
    (roles : t ≠ 3 → c.roles = b.roles := by simp) (params : t ≠ 4 → c.params = b.params := by simp)
    (template : t ≠ 5 → c.template = b.template := by simp) (comps : t ≠ 6 → c.comps = b.comps := by simp)
    (straps : t ≠ 7 → c.straps = b.straps := by simp) : RowPut b c t i row := by
  intro t' i'
  by_cases table : t' = t
  · subst table
    by_cases index : i' = i
    · subst index
      rw [if_pos ⟨rfl, rfl⟩, here]
    · rw [if_neg (fun h => index h.2), beside i' index]
  · rw [if_neg (fun h => table h.1)]
    exact fieldRow_congr (fun h => header (h ▸ Ne.symm table)) (fun h => fct (h ▸ Ne.symm table))
      (fun h => sdt (h ▸ Ne.symm table)) (fun h => roles (h ▸ Ne.symm table)) (fun h => params (h ▸ Ne.symm table))
      (fun h => template (h ▸ Ne.symm table)) (fun h => comps (h ▸ Ne.symm table))
      (fun h => straps (h ▸ Ne.symm table))

theorem header_put (x : Header) : RowPut b { b with header := x } 0 0 (headerRow x) := by
  refine rowPut_of rfl (fun i' other => ?_)
  simp [fieldRow, other]

theorem fct_put (h : i < 48) (x : FctEntry) : RowPut b { b with fct := b.fct.set i x } 1 i (fctRow x) := by
  refine rowPut_of (by rw [fieldRow_fct h, Vector.getElem_set_self]) (fun i' other => ?_)
  simp [fieldRow, Vector.getElem?_set_ne h (Ne.symm other)]

theorem sdt_put (h : i < 32) (x : SlotDef) : RowPut b { b with sdt := b.sdt.set i x } 2 i (sdtRow x) := by
  refine rowPut_of (by rw [fieldRow_sdt h, Vector.getElem_set_self]) (fun i' other => ?_)
  simp [fieldRow, Vector.getElem?_set_ne h (Ne.symm other)]

theorem roles_put {x : RoleMap} {bound : FieldSpec × Int} (known : i < 5)
    (h : bindingRow x = (bindingRow b.roles).set i bound) : RowPut b { b with roles := x } 3 i [bound] := by
  have length : (bindingRow b.roles).length = 5 := rfl
  refine rowPut_of ?_ (fun i' other => ?_)
  · rw [fieldRow_roles, h, List.getElem?_set]
    simp [length, known]
  · rw [fieldRow_roles, fieldRow_roles, h, List.getElem?_set]
    simp [Ne.symm other]

theorem params_put (x : Params) : RowPut b { b with params := x } 4 0 (paramRow x) := by
  refine rowPut_of rfl (fun i' other => ?_)
  simp [fieldRow, other]

theorem template_put (x : Template) : RowPut b { b with template := x } 5 0 (templateRow x) := by
  refine rowPut_of rfl (fun i' other => ?_)
  simp [fieldRow, other]

theorem comps_put (h : i < 4) (x : CompEntry) : RowPut b { b with comps := b.comps.set i x } 6 i (compRow x) := by
  refine rowPut_of (by rw [fieldRow_comps h, Vector.getElem_set_self]) (fun i' other => ?_)
  simp [fieldRow, Vector.getElem?_set_ne h (Ne.symm other)]

theorem straps_put (h : i < 64) (x : StrapPoint) : RowPut b { b with straps := b.straps.set i x } 7 i (strapRow x) := by
  refine rowPut_of (by rw [fieldRow_straps h, Vector.getElem_set_self]) (fun i' other => ?_)
  simp [fieldRow, Vector.getElem?_set_ne h (Ne.symm other)]

/-- A value that a field takes is put at its place of its row, and no other row changes. -/
theorem bankField_puts {a : FieldAccess Bank} (b : Bank) (h : bankField t i f = some a) (takes : Takes a.spec w) :
    RowPut b (a.set w b) t i ((fieldRow b t i).set f (a.spec, w)) := by
  unfold bankField at h
  split at h
  case h_1 =>
    split at h
    · rename_i only
      subst only
      obtain ⟨e, field, rfl⟩ := Option.map_eq_some_iff.mp h
      exact header_row.puts _ _ _ b.header field takes ▸ header_put _
    · cases h
  case h_2 =>
    split at h
    · rename_i place
      obtain ⟨e, field, rfl⟩ := Option.map_eq_some_iff.mp h
      rw [fieldRow_fct place]
      exact fct_row.puts _ _ _ b.fct[i] field takes ▸ fct_put place _
    · cases h
  case h_3 =>
    split at h
    · rename_i place
      obtain ⟨e, field, rfl⟩ := Option.map_eq_some_iff.mp h
      rw [fieldRow_sdt place]
      exact sdt_row.puts _ _ _ b.sdt[i] field takes ▸ sdt_put place _
    · cases h
  case h_4 =>
    split at h
    · rename_i only
      subst only
      obtain ⟨e, field, rfl⟩ := Option.map_eq_some_iff.mp h
      have shown := role_row.shows i b.roles
      rw [field] at shown
      obtain ⟨known, -⟩ := List.getElem?_eq_some_iff.mp shown.symm
      rw [fieldRow_roles, ← shown]
      exact roles_put known (role_row.puts _ _ _ b.roles field takes)
    · cases h
  case h_5 =>
    split at h
    · rename_i only
      subst only
      obtain ⟨e, field, rfl⟩ := Option.map_eq_some_iff.mp h
      exact param_row.puts _ _ _ b.params field takes ▸ params_put _
    · cases h
  case h_6 =>
    split at h
    · rename_i only
      subst only
      obtain ⟨e, field, rfl⟩ := Option.map_eq_some_iff.mp h
      exact template_row.puts _ _ _ b.template field takes ▸ template_put _
    · cases h
  case h_7 =>
    split at h
    · rename_i place
      obtain ⟨e, field, rfl⟩ := Option.map_eq_some_iff.mp h
      rw [fieldRow_comps place]
      exact comp_row.puts _ _ _ b.comps[i] field takes ▸ comps_put place _
    · cases h
  case h_8 =>
    split at h
    · rename_i place
      obtain ⟨e, field, rfl⟩ := Option.map_eq_some_iff.mp h
      rw [fieldRow_straps place]
      exact strap_row.puts _ _ _ b.straps[i] field takes ▸ straps_put place _
    · cases h
  case h_9 => cases h

/-- Settles O48: the write is put at one place of one row, and every field shows its place of its row. -/
theorem writtenFieldsReadBackAlone : Obligations.WrittenFieldsReadBackAlone := by
  unfold Obligations.WrittenFieldsReadBackAlone
  intro t i f a b v w clamped field settled
  have put := bankField_puts b field (settle_takes settled)
  have shown (c : Bank) : (fieldRow c t i)[f]? = some (a.spec, a.get c) := by
    rw [← bankField_shows, field, Option.map_some]
  refine ⟨?_, fun t' i' f' a' field' other => ?_⟩
  · have written := shown (a.set w b)
    rw [put, if_pos ⟨rfl, rfl⟩, List.getElem?_set_self' , shown b] at written
    exact (congrArg Prod.snd (Option.some.inj written)).symm
  · have shown' (c : Bank) : (fieldRow c t' i')[f']? = some (a'.spec, a'.get c) := by
      rw [← bankField_shows, field', Option.map_some]
    have kept : (fieldRow (a.set w b) t' i')[f']? = (fieldRow b t' i')[f']? := by
      rw [put]
      split
      · rename_i same
        obtain ⟨rfl, rfl⟩ := same
        exact List.getElem?_set_ne fun e => other (by rw [e])
      · rfl
    rw [shown', shown'] at kept
    exact congrArg Prod.snd (Option.some.inj kept)

end Sys2Proof.Proofs.BankFields

/-! PROOF. The management requests that read, and WRITE_TABLE, served at their arrival: what each answers, byte by byte (R72, R145,
R149, R150, R153, R170, R172, R179, R181). -/

namespace Sys2Proof.Proofs.Reads

open Sys2Proof.Machine Sys2Proof.Safety Sys2Proof.Laws.Terms Sys2Proof.Proofs.Answers Sys2Proof.Proofs.PeriodicFrames
open Sys2Proof.Proofs.Grading Sys2Proof.Proofs.BankFields

variable {s : State}

/-! ## The bytes of a request (R181) -/

theorem tableByte_table (table : BitVec 3) (field : BitVec 5) : (tableByte table field).toNat / 32 = table.toNat := by
  unfold tableByte
  rw [toNat_append_eq_add]
  omega

theorem tableByte_field (table : BitVec 3) (field : BitVec 5) : (tableByte table field).toNat % 32 = field.toNat := by
  unfold tableByte
  rw [toNat_append_eq_add]
  omega

/-- A 32-bit word read from the bytes that carry it. -/
theorem word32_be32 (x : BitVec 32) :
    BitVec.ofNat 32 (16777216 * (BitVec.ofNat 8 (x.toNat / 16777216)).toNat + 65536 * (BitVec.ofNat 8 (x.toNat / 65536)).toNat
      + 256 * (BitVec.ofNat 8 (x.toNat / 256)).toNat + (BitVec.ofNat 8 x.toNat).toNat) = x := by
  apply BitVec.eq_of_toNat_eq
  simp only [BitVec.toNat_ofNat]
  omega

/-! ## QUERY_STATUS, READ_SIGNAL and READ_COMPARTMENT (R72, R145, R172) -/

theorem pageBits_length (p : Page) (s : State) : (pageBits p s).length = 6 := by
  cases p <;> rfl

theorem serveQueryStatus_unknown {d : List Byte} (h : 2 ≤ (dataByte d 2).toNat) :
    serveQueryStatus d s = .bare .badValue := by
  unfold serveQueryStatus
  split
  · omega
  · omega
  · rfl

/-- The answer that a status page makes (R172). -/
theorem queryStatus_page (p : Page) (tag page : Byte) (s : State) :
    answered (responseBytes (s.requestFrame [1, tag, page]) (.ok ((tookRequest s).pageBody p))) (tookRequest s)
      = answers (1 :: tag :: pageBits p s) s := by
  rw [pageBody_eq, responseBytes, Reply.ok, padBytes_of_length 6 (pageBits_length p _)]
  cases p <;> rfl

theorem queryStatus_answered (tag page : Byte) (ready : ReadyToServe s) : exec (.queryStatus tag page) s = .next (answers
    (if page = 0 then 1 :: tag :: pageBits .a s
     else if page = 1 then 1 :: tag :: pageBits .b s
     else [0x41, tag, 0, 0, 0, 0, 0, 0]) s) := by
  refine congrArg Host.Outcome.next
    ((requestArrival_answered (d := [1, tag, page]) ready (by simp) rfl rfl).trans ?_)
  by_cases a : page = 0
  · subst a
    exact queryStatus_page .a tag 0 s
  · rw [if_neg a]
    by_cases b : page = 1
    · subst b
      exact queryStatus_page .b tag 1 s
    · have unknown : serveQueryStatus (s.requestFrame [1, tag, page]).data (tookRequest s) = .bare .badValue :=
        serveQueryStatus_unknown (show 2 ≤ page.toNat by bv_omega)
      rw [if_neg b, unknown]
      rfl

/-- The status byte of READ_SIGNAL (R181). -/
theorem signal_status (status : BitVec 2) (value stamp : BitVec 1) :
    BitVec.ofNat 8 (status.toNat + 16 * value.toNat + 32 * stamp.toNat) = 0#2 ++ stamp ++ value ++ 0#2 ++ status := by
  revert status value stamp
  decide

theorem be16_signed (v : Int) : be16 (signed16 v) = bytes16 (BitVec.ofInt 16 v) := be16_toNat _

theorem readSignal_answered (tag slot : Byte) (ready : ReadyToServe s) :
    exec (.readSignal tag slot) s = .next
      (answered (responseBytes (s.requestFrame [2, tag, slot]) (serveReadSignal [2, tag, slot] s)) (tookRequest s)) :=
  congrArg Host.Outcome.next (requestArrival_answered (d := [2, tag, slot]) ready (by simp) rfl rfl)

theorem serveReadSignal_slot (tag : Byte) (i : Fin 32) (s : State) :
    serveReadSignal [2, tag, BitVec.ofNat 8 i.val] s = .ok
      (bytes16 (BitVec.ofInt 16 (s.slots[i].value.getD 0))
        ++ [0#2 ++ oneBit s.slots[i].stamp.isSome ++ oneBit s.slots[i].value.isSome ++ 0#2 ++ BitVec.ofNat 2 s.slots[i].status.code,
            BitVec.ofNat 8 s.slots[i].hc]
        ++ bytes16 (s.slots[i].stamp.getD 0)) := by
  have index : (dataByte [2, tag, BitVec.ofNat 8 i.val] 2).toNat = i.val := by
    simp [dataByte]
    omega
  have code (x : SlotStatus) : x.code = (BitVec.ofNat 2 x.code).toNat := by cases x <;> rfl
  unfold serveReadSignal
  simp only [index, i.isLt, dite_true]
  rw [be16_signed, be16_toNat, code, bit_eq, bit_eq, signal_status]
  rfl

theorem readCompartment_answered (tag comp : Byte) (ready : ReadyToServe s) :
    exec (.readCompartment tag comp) s = .next
      (answered (responseBytes (s.requestFrame [3, tag, comp]) (serveReadCompartment [3, tag, comp] s)) (tookRequest s)) :=
  congrArg Host.Outcome.next (requestArrival_answered (d := [3, tag, comp]) ready (by simp) rfl rfl)

theorem serveReadCompartment_comp (tag : Byte) (c : Fin 4) (s : State) :
    serveReadCompartment [3, tag, BitVec.ofNat 8 c.val] s = .ok
      (wordBits s.tank.comps[c] ++ bytes16 (BitVec.ofNat 16 s.tank.comps[c].lf) ++ bytes16 (BitVec.ofNat 16 s.tank.comps[c].v)) := by
  have index : (dataByte [3, tag, BitVec.ofNat 8 c.val] 2).toNat = c.val := by
    simp [dataByte]
    omega
  unfold serveReadCompartment
  simp only [index, c.isLt, dite_true]
  rw [be16_word, be16_ofNat, be16_ofNat]
  rfl

/-! ## READ_TABLE, READ_COUNTER and READ_FAULT (R149, R170, R179) -/

theorem readTable_eq (m : TableMemory) (shadow : Bool) (table index field : Nat) :
    m.readTable shadow table index field = readValue m shadow table index field := by
  unfold TableMemory.readTable readValue
  by_cases hit : table = 1 ∧ field = 21
  · rw [if_pos hit, if_pos hit]
    by_cases inside : index < 48
    · rw [dif_pos inside, Vector.getElem?_eq_getElem inside]
      rfl
    · rw [dif_neg inside, Vector.getElem?_eq_none (by omega)]
      rfl
  · rw [if_neg hit, if_neg hit, ← bankField_shows]
    cases bankField table index field <;> rfl

theorem readTable_answered (tag : Byte) (table : BitVec 3) (field : BitVec 5) (index bank : Byte) (ready : ReadyToServe s) :
    exec (.readTable tag table field index bank) s = .next (answers
      (match readValue s.tables (decide (bank = 1)) table.toNat index.toNat field.toNat with
       | none => [0x34, tag, 0, 0, 0, 0, 0, 0]
       | some v =>
         if bank = 0 ∨ bank = 1 then [4, tag] ++ bytes32 (BitVec.ofInt 32 v) ++ [0, 0]
         else [0x44, tag, 0, 0, 0, 0, 0, 0]) s) := by
  refine congrArg Host.Outcome.next
    ((requestArrival_answered (d := [4, tag, tableByte table field, index, bank]) ready (by simp) rfl rfl).trans ?_)
  have named : (tookRequest s).tables.readTable (bank.toNat == 1) ((tableByte table field).toNat / 32) index.toNat
      ((tableByte table field).toNat % 32) = readValue s.tables (decide (bank = 1)) table.toNat index.toNat field.toNat := by
    have shadow : (bank.toNat == 1) = decide (bank = 1) := by
      rw [Bool.eq_iff_iff]
      simp only [beq_iff_eq, decide_eq_true_eq]
      bv_omega
    rw [readTable_eq, tableByte_table, tableByte_field, shadow]
    rfl
  have banks : bank.toNat ≤ 1 ↔ bank = 0 ∨ bank = 1 := by bv_omega
  unfold serveReadTable
  dsimp only
  rw [show (tookRequest s).tables.readTable
      ((dataByte (s.requestFrame [4, tag, tableByte table field, index, bank]).data 4).toNat == 1)
      ((dataByte (s.requestFrame [4, tag, tableByte table field, index, bank]).data 2).toNat / 32)
      (dataByte (s.requestFrame [4, tag, tableByte table field, index, bank]).data 3).toNat
      ((dataByte (s.requestFrame [4, tag, tableByte table field, index, bank]).data 2).toNat % 32) = _ from named]
  cases readValue s.tables (decide (bank = 1)) table.toNat index.toNat field.toNat with
  | none => rfl
  | some v =>
    dsimp only
    by_cases known : bank = 0 ∨ bank = 1
    · rw [if_pos known, if_pos (by exact banks.mpr known), ← be32_eq]
      rfl
    · rw [if_neg known, if_neg (by exact mt banks.mp known)]
      rfl

theorem groupCounters_eq (s : State) (group : Nat) : s.groupCounters group = (counterGroups s)[group]? := by
  match group with
  | 0 | 1 | 2 | 3 | 4 | 5 => rfl
  | _ + 6 => rfl

theorem serveReadCounter_eq (tag group counter : Byte) (s : State) : serveReadCounter [10, tag, group, counter] s =
    match (counterGroups s)[group.toNat]? with
    | none => .bare .badValue
    | some l =>
      match l[counter.toNat]? with
      | none => .bare .badIndex
      | some n => .ok (be32 n) := by
  unfold serveReadCounter
  rw [groupCounters_eq]
  rfl

theorem readCounter_answered (tag group counter : Byte) (ready : ReadyToServe s) :
    exec (.readCounter tag group counter) s = .next (answers
      (match (counterGroups (tookRequest s))[group.toNat]? with
       | none => [0x4A, tag, 0, 0, 0, 0, 0, 0]
       | some l =>
         match l[counter.toNat]? with
         | none => [0x3A, tag, 0, 0, 0, 0, 0, 0]
         | some n => [0x0A, tag] ++ bytes32 n ++ [0, 0]) s) := by
  refine congrArg Host.Outcome.next
    ((requestArrival_answered (d := [10, tag, group, counter]) ready (by simp) rfl rfl).trans ?_)
  change answered (responseBytes _ (serveReadCounter [10, tag, group, counter] (tookRequest s))) _ = _
  rw [serveReadCounter_eq]
  cases (counterGroups (tookRequest s))[group.toNat]? with
  | none => rfl
  | some l =>
    dsimp only
    cases l[counter.toNat]? with
    | none => rfl
    | some n =>
      dsimp only
      rw [← be32_eq]
      rfl

/-- The byte of severity, apparatus state and index present of READ_FAULT (R181). -/
theorem fault_byte (severity : BitVec 2) (app : BitVec 3) (index : BitVec 1) :
    BitVec.ofNat 8 (severity.toNat + 4 * app.toNat + 32 * index.toNat) = 0#2 ++ index ++ app ++ severity := by
  revert severity app index
  decide

theorem readFault_answered (tag : Byte) (ready : ReadyToServe s) : exec (.readFault tag) s = .next
    (answered (responseBytes (s.requestFrame [12, tag]) (serveReadFault s)) (tookRequest s)) :=
  congrArg Host.Outcome.next (requestArrival_answered (d := [12, tag]) ready (by simp) rfl rfl)

theorem serveReadFault_record {r : Capture} (h : s.faults.record = some r) : serveReadFault s = .ok
    ([BitVec.ofNat 8 r.cause.code,
      0#2 ++ oneBit r.index.isSome ++ BitVec.ofNat 3 r.app.code ++ BitVec.ofNat 2 r.severity.code,
      BitVec.ofNat 8 (r.index.getD 0)] ++ bytes16 r.clock ++ [BitVec.ofNat 8 r.suppressed]) := by
  have app (x : AppState) : x.code = (BitVec.ofNat 3 x.code).toNat := by cases x <;> rfl
  have severity (x : Severity) : x.code = (BitVec.ofNat 2 x.code).toNat := by cases x <;> rfl
  unfold serveReadFault
  rw [h]
  dsimp only
  rw [be16_toNat, severity, app, bit_eq, fault_byte, ← severity, ← app]

/-- Settles O45: each read by its request. -/
theorem readsAnswerTheStateAsItStands : Obligations.ReadsAnswerTheStateAsItStands := by
  unfold Obligations.ReadsAnswerTheStateAsItStands
  refine ⟨fun s tag ready => ⟨fun page => queryStatus_answered tag page ready, fun i => ?signal, fun slot beyond => ?noSlot,
      fun c => ?compartment, fun comp beyond => ?noCompartment⟩,
    fun s tag ready => ⟨fun table field index bank => readTable_answered tag table field index bank ready,
      fun group counter => readCounter_answered tag group counter ready, fun empty => ?noFault, fun r held => ?fault⟩⟩
  case signal =>
    rw [readSignal_answered tag _ ready, serveReadSignal_slot]
    dsimp only
    cases s.slots[i].status <;> rfl
  case noSlot =>
    have none_ : serveReadSignal [2, tag, slot] s = .bare .badIndex := dif_neg (Nat.not_lt.mpr beyond)
    rw [readSignal_answered tag slot ready, none_]
    rfl
  case compartment =>
    rw [readCompartment_answered tag _ ready, serveReadCompartment_comp]
    rfl
  case noCompartment =>
    have none_ : serveReadCompartment [3, tag, comp] s = .bare .badIndex := dif_neg (Nat.not_lt.mpr beyond)
    rw [readCompartment_answered tag comp ready, none_]
    rfl
  case noFault =>
    have none_ : serveReadFault s = .ok [] := by
      unfold serveReadFault
      rw [empty]
    rw [readFault_answered tag ready, none_]
    rfl
  case fault =>
    rw [readFault_answered tag ready, serveReadFault_record held]
    dsimp only
    cases r.severity <;> rfl

/-! ## WRITE_TABLE (R150) -/

theorem writeTable_answered (tag : Byte) (table : BitVec 3) (field : BitVec 5) (index : Byte) (value : BitVec 32)
    (ready : ReadyToServe s) : exec (.writeTable tag table field index value) s = .next
      (match bankField table.toNat index.toNat field.toNat with
       | none => answers [0x35, tag, 0, 0, 0, 0, 0, 0] s
       | some a =>
         match a.spec.settle value.toInt with
         | none => answers [0x45, tag, 0, 0, 0, 0, 0, 0] s
         | some (v, clamped) =>
           answered ([if clamped then 0x85 else 5, tag] ++ bytes32 (BitVec.ofInt 32 v) ++ [0, 0])
             { tookRequest s with tables := { s.tables with shadow := a.set v s.tables.shadow } }) := by
  have served := requestArrival_answered (d := [5, tag, tableByte table field, index] ++ be32 value) ready
    (by simp [be32]) rfl rfl
  refine congrArg Host.Outcome.next (served.trans ?_)
  unfold serveWriteTable
  have word : word32At (s.requestFrame ([5, tag, tableByte table field, index] ++ be32 value)).data 4 = value :=
    word32_be32 value
  have names : bankField ((dataByte (s.requestFrame ([5, tag, tableByte table field, index] ++ be32 value)).data 2).toNat / 32)
      (dataByte (s.requestFrame ([5, tag, tableByte table field, index] ++ be32 value)).data 3).toNat
      ((dataByte (s.requestFrame ([5, tag, tableByte table field, index] ++ be32 value)).data 2).toNat % 32)
      = bankField table.toNat index.toNat field.toNat := by
    rw [← tableByte_table table field, ← tableByte_field table field]
    rfl
  dsimp only
  rw [names, word]
  cases bankField table.toNat index.toNat field.toNat with
  | none => rfl
  | some a =>
    dsimp only
    cases a.spec.settle value.toInt with
    | none => rfl
    | some x =>
      obtain ⟨v, clamped⟩ := x
      dsimp only
      rw [← be32_eq]
      cases clamped <;> rfl

/-- Settles O47: the field named settles the value, and the fields show their rows. -/
theorem writeTableSettlesTheValue : Obligations.WriteTableSettlesTheValue := by
  unfold Obligations.WriteTableSettlesTheValue
  refine ⟨fun s tag table field index value ready => writeTable_answered tag table field index value ready,
    bankField_shows, fun low high v ordered => ?number, fun v => ?freshness, fun n v => rfl, fun v => rfl⟩
  case number =>
    simp only [FieldSpec.settle, clampInt_eq_max_min ordered]
  case freshness =>
    simp only [FieldSpec.settle, clampInt_eq_max_min (show (10 : Int) ≤ 10000 by decide)]
    by_cases zero : v = 0
    · simp [zero]
    · simp [zero]

/-! ## PROBE (R153) -/

/-- The byte of a PROBE request that names the bank, the port, the format and the mode class. -/
theorem probeByte_fields : ∀ (bank port format : BitVec 1) (cls : BitVec 3),
    let x : Byte := bank ++ port ++ format ++ (0 : BitVec 2) ++ cls
    x.toNat % 8 = cls.toNat ∧ x.getLsbD 7 = decide (bank = 1) ∧ x.getLsbD 6 = decide (port = 1)
      ∧ x.getLsbD 5 = decide (format = 1) := by
  decide

/-- The greatest identifier of a format (R153). -/
def identLimit : Format → Nat
  | .standard => 2047
  | .extended => 536870911

/-- What PROBE answers from a bank, for a port, a format, a mode class and an identifier (R153). -/
def probed (b : Bank) (p : Port) (format : Format) (cls ident : Nat) : Reply :=
  if 4 < cls ∨ identLimit format < ident then .bare .badValue
  else
    match b.search p cls format .data (BitVec.ofNat 29 ident) with
    | some i => .ok [BitVec.ofNat 8 i.val, BitVec.ofNat 8 b.fct[i].action.code]
    | none => .ok [255, BitVec.ofNat 8 (b.header.defaultFor p).code]

theorem serveProbe_eq (d : List Byte) (s : State) : serveProbe d s =
    probed (if (dataByte d 2).getLsbD 7 then s.tables.shadow else s.tables.active)
      (if (dataByte d 2).getLsbD 6 then .body else .chassis) (if (dataByte d 2).getLsbD 5 then .extended else .standard)
      ((dataByte d 2).toNat % 8) (word32At d 3).toNat := rfl

theorem ident_beyond (format : BitVec 1) (n : Nat) :
    identLimit (if format = 1 then .extended else .standard) < n ↔ (format = 0 ∧ 2047 < n) ∨ 536870911 < n := by
  have bit : format = 0 ∨ format = 1 := by revert format; decide
  rcases bit with rfl | rfl
  · simp [identLimit]
    omega
  · simp [identLimit]

theorem code_action (x : Action) : BitVec.ofNat 8 x.code =
    match x with
    | .pass => 0 | .block => 1 | .tap => 2 | .sink => 3 | .clamp => 4 | .rangeGuard => 5 := by
  cases x <;> rfl

theorem code_default (x : DefaultAction) : BitVec.ofNat 8 x.code = if x = .pass then (0 : Byte) else 1 := by
  cases x <;> rfl

theorem defaultFor_eq (h : Header) (port : BitVec 1) :
    h.defaultFor (if port = 1 then .body else .chassis) = if port = 1 then h.bodyDefault else h.chassisDefault := by
  split <;> rfl

/-- Settles O46: the named bank's search, by its outcome. -/
theorem probeReproducesTheSearch : Obligations.ProbeReproducesTheSearch := by
  unfold Obligations.ProbeReproducesTheSearch
  intro s tag bank port format cls ident ready
  dsimp only
  have served := requestArrival_answered (d := [8, tag, bank ++ port ++ format ++ (0 : BitVec 2) ++ cls] ++ be32 ident) ready
    (by simp [be32]) rfl rfl
  refine congrArg Host.Outcome.next (served.trans ?_)
  obtain ⟨clsBits, bankBit, portBit, formatBit⟩ := probeByte_fields bank port format cls
  have word : word32At (s.requestFrame ([8, tag, bank ++ port ++ format ++ (0 : BitVec 2) ++ cls] ++ be32 ident)).data 3 = ident :=
    word32_be32 ident
  have byte : dataByte (s.requestFrame ([8, tag, bank ++ port ++ format ++ (0 : BitVec 2) ++ cls] ++ be32 ident)).data 2
      = bank ++ port ++ format ++ (0 : BitVec 2) ++ cls := rfl
  rw [serveProbe_eq, word, byte, clsBits, bankBit, portBit, formatBit]
  simp only [decide_eq_true_eq]
  generalize chosen : (if bank = 1 then s.tables.shadow else s.tables.active) = b
  have tables : (if bank = 1 then (tookRequest s).tables.shadow else (tookRequest s).tables.active) = b := chosen
  rw [tables]
  unfold probed
  have wide : BitVec.ofNat 29 ident.toNat = ident.setWidth 29 := rfl
  rw [wide]
  by_cases bad : 4 < cls.toNat ∨ (format = 0 ∧ 2047 < ident.toNat) ∨ 536870911 < ident.toNat
  · rw [if_pos bad, if_pos (bad.imp_right (ident_beyond _ _).mpr)]
    rfl
  · rw [if_neg bad, if_neg (mt (fun h => h.imp_right (ident_beyond _ _).mp) bad)]
    cases b.search (if port = 1 then .body else .chassis) cls.toNat (if format = 1 then .extended else .standard) .data
        (ident.setWidth 29) with
    | none =>
      dsimp only
      rw [← code_default, ← defaultFor_eq]
      rfl
    | some i =>
      dsimp only
      rw [code_action]
      rfl

end Sys2Proof.Proofs.Reads

/-! PROOF. What changes nothing: frames at a silent port, and commands whose event cannot occur (R41, R43; notes/assumptions/1.md,
2.md). -/

namespace Sys2Proof.Proofs.Silence

open Sys2Proof.Machine Sys2Proof.Safety Sys2Proof.Proofs.Attempts Sys2Proof.Proofs.Accounts

variable {s : State}

theorem arrive_unreported {p : Port} {f : Frame} (h : (s.port p).reports p (s.diverts p f) = false) : arrive p f s = s :=
  if_neg (by rw [h]; decide)

/-- Settles O7: the port reports no such arrival. -/
theorem silentPortsTakeNoFrame : Obligations.SilentPortsTakeNoFrame := by
  unfold Obligations.SilentPortsTakeNoFrame
  intro s p f wf silent
  refine congrArg Host.Outcome.next (arrive_unreported ?_)
  rw [diverts_deliver s p f]
  unfold PortRec.reports
  rcases silent with down | ⟨stopped, plain⟩
  · rw [down]
  · rw [stopped, plain]
    simp

theorem startAttempt_busy {p : Port} (h : (s.port p).attempt.isSome) : startAttempt p s = s := if_pos h

theorem move_stays {u : Queue} (h : u.out.isSome ∨ u.body = []) : u.move = u := by
  rcases h with occupied | empty
  · obtain ⟨r, out⟩ := Option.isSome_iff_exists.mp occupied
    exact Queue.move_occupied out
  · exact Queue.move_empty empty

theorem setQueue_same (q : QueueId) (s : State) : s.setQueue q (s.queue q) = s := by cases q <;> rfl

/-- An expiry that is not due changes nothing. -/
theorem not_due {p : Prop} [Decidable p] (t : State) (h : ¬p) :
    (Host.Outcome.next (if p then t else s) : Host.Outcome State Fault Refusal) = .next s := by
  rw [if_neg h]

/-- Settles O14: by the condition of each event. -/
theorem eventsThatCannotOccurChangeNothing : Obligations.EventsThatCannotOccurChangeNothing := by
  unfold Obligations.EventsThatCannotOccurChangeNothing
  intro s
  refine ⟨fun q h => ?move, fun p h => congrArg Host.Outcome.next (startAttempt_busy h), fun p h => ?ends,
    fun p h => not_due _ (fun g => h g.2), fun i h => not_due _ h, fun i h => not_due _ h, fun i h => not_due _ h,
    fun h => not_due _ h, fun h => not_due _ h, fun h => not_due _ h, fun h => not_due _ (fun g => h g.1),
    fun c h => not_due _ h, fun c h => not_due _ (fun g => h g.1), fun h => not_due _ h, fun h => not_due _ h,
    fun h => not_due _ h, fun h => ?restart, fun h => ⟨?validation, fun b => ?store⟩, fun h => not_due _ h⟩
  case move =>
    refine congrArg Host.Outcome.next ?_
    rw [move_stays h, setQueue_same]
  case ends =>
    exact ⟨congrArg Host.Outcome.next (endInSuccess_idle h), congrArg Host.Outcome.next (endInFailure_idle h),
      congrArg Host.Outcome.next (endInLoss_idle h)⟩
  case restart =>
    simp only [exec, execRestartCountdownExpiry]
    cases pending : s.engine.restart with
    | none => rfl
    | some r => exact not_due _ (h r pending)
  case validation =>
    simp only [exec, execValidationCompletion, Engine.serviceAt, h]
  case store =>
    simp only [exec, execStoreEnd, Engine.serviceAt, h]

end Sys2Proof.Proofs.Silence

/-! PROOF. What takes its place and what follows its countdown: generated frames, the reassertion, and the pins (R36, R37, R79, R106,
R119 to R122). -/

namespace Sys2Proof.Proofs.Placing

open Sys2Proof.Machine Sys2Proof.Safety Sys2Proof.Laws.Terms Sys2Proof.Proofs.PeriodicFrames
  Sys2Proof.Proofs.WholeLaws

variable {s : State}

/-- Settles O15: by the law of each place. -/
theorem generatedFramesTakeTheirPlace : Obligations.GeneratedFramesTakeTheirPlace := by
  unfold Obligations.GeneratedFramesTakeTheirPlace
  exact fun f s => ⟨placeLockout_eq f s, placeStatus_eq f s, placeLevel_eq f s⟩

/-! ## The reassertion (R119 to R122) -/

theorem emitLockout_eq (s : State) : emitLockout s = { s with
    ceil := { s.ceil with reassert := some s.tables.active.params.reassertLoad }
    places := { s.places with
      lockout := generated s.chassis .lockout (s.lockoutFrame s.ceil.content) s.places.lockout } } := by
  unfold emitLockout
  rw [placeLockout_eq]

/-- Settles O39: by the content in force. -/
theorem reassertionPlacesTheContentAfresh : Obligations.ReassertionPlacesTheContentAfresh := by
  unfold Obligations.ReassertionPlacesTheContentAfresh
  intro s expired
  refine ⟨fun lock range codes => congrArg Host.Outcome.next ?_, fun silent => congrArg Host.Outcome.next (if_neg ?_)⟩
  · have emits : s.ceil.content ≠ .notEmitting := by
      rcases codes with ⟨content, -, -⟩ | ⟨content, -, -⟩ | ⟨content, -, -⟩ <;> simp [content]
    have formed : s.lockoutFrame s.ceil.content = s.tables.active.template.form lock range := by
      rcases codes with ⟨content, rfl, rfl⟩ | ⟨content, rfl, rfl⟩ | ⟨content, rfl, rfl⟩ <;> rw [content] <;> rfl
    rw [if_pos ⟨expired, emits⟩, emitLockout_eq, formed]
    rfl
  · exact fun h => h.2 silent

/-! ## Pins and the lamp (R79, R106) -/

theorem settle_eq (low : Bool) (d : Debouncer) : Debouncer.settle { d with pinLow := low } =
    ⟨low, d.active, if low = d.active then none else if d.countdown = none then some 20 else d.countdown⟩ := by
  unfold Debouncer.settle
  by_cases same : low = d.active
  · simp [same]
  · cases d.countdown <;> simp [same]

/-- A change of an input that no state watches has no further effect (R79, R93, R98, R104). -/
theorem onInput_unwatched {i : InputId} (h : s.ctl.app = .unloaded
    ∨ (i = .parkSw ∧ s.ctl.app ≠ .mainEngaging ∧ s.ctl.app ≠ .pump) ∨ (s.ctl.app = .disengaging ∧ s.ctl.phase ≠ .d3)) :
    onInput i s = s := by
  rcases h with unloaded | ⟨rfl, notMain, notPump⟩ | ⟨disengaging, notLast⟩
  · cases i <;> simp [onInput, onPark, onMainFb, onAuxFb, unloaded]
  · unfold onInput onPark
    cases app : s.ctl.app <;> simp_all
  · cases i <;> simp [onInput, onPark, onMainFb, onAuxFb, disengaging, notLast]

/-- Settles O27: by the pin level, and by the end of a countdown. -/
theorem pinsAndLampFollowTheirCountdowns : Obligations.PinsAndLampFollowTheirCountdowns := by
  unfold Obligations.PinsAndLampFollowTheirCountdowns
  refine ⟨fun s i => ⟨fun low => ?pin, fun expired unwatched => ?level⟩, fun s expired => ?flash⟩
  case pin =>
    refine congrArg Host.Outcome.next ?_
    rw [settle_eq]
    rfl
  case level =>
    refine congrArg Host.Outcome.next ((if_pos expired).trans (onInput_unwatched ?_))
    obtain ⟨app, phase⟩ := setInput_frame s.ctl i ⟨(s.ctl.input i).pinLow, (s.ctl.input i).pinLow, none⟩
    rw [State.setCtl_ctl, app, phase]
    exact unwatched
  case flash => exact congrArg Host.Outcome.next (if_pos expired)

end Sys2Proof.Proofs.Placing

/-! PROOF. Which commands move the Frame Clock and which replace the Active bank: every other event keeps both (R68, R157, R174). -/

namespace Sys2Proof.Proofs.ClockAndBank

open Sys2Proof.Machine Sys2Proof.Safety Sys2Proof.Proofs.Events Sys2Proof.Proofs.Attempts Sys2Proof.Proofs.Traffic
open Sys2Proof.Proofs.Resets

variable {s t u : State} {c : Instr}

/-- The Frame Clock and the Active bank stay as they are. -/
structure Steady (s t : State) : Prop where
  clock : t.clock = s.clock
  bank : t.tables.active = s.tables.active

namespace Steady

theorem refl (s : State) : Steady s s := ⟨rfl, rfl⟩

theorem trans (h : Steady s t) (g : Steady t u) : Steady s u := ⟨g.clock.trans h.clock, g.bank.trans h.bank⟩

theorem of_drive (h : OnlyDrive s t) : Steady s t := ⟨h.clock, congrArg (·.active) h.tables⟩

theorem of_traffic (h : OnlyTraffic s t) : Steady s t := ⟨h.clock, h.bank⟩

end Steady

/-! ## Arrivals and slot events (chapters 1 and 3) -/

theorem slotError_steady (i : Fin 32) (reload : Bool) (s : State) : Steady s (slotError i reload s) := by
  unfold slotError
  dsimp only
  split <;> exact ⟨rfl, rfl⟩

theorem updateEvent_steady (i : Fin 32) (x : Update) (s : State) : Steady s (updateEvent i x s) := by
  unfold updateEvent
  split
  · exact (slotError_steady i false s).trans (.of_drive (notifyRoles_onlyDrive _ _ _))
  · exact Steady.trans (t := s.setSlot i _) ⟨rfl, rfl⟩ (.of_drive (notifyRoles_onlyDrive _ _ _))

theorem runExtractors_steady (xs : List Extractor) (f : Frame) (s : State) : Steady s (runExtractors xs f s) := by
  unfold runExtractors
  induction xs generalizing s with
  | nil => exact .refl s
  | cons x xs ih => exact (updateEvent_steady x.slot _ s).trans (ih _)

theorem classify_steady (p : Port) (f : Frame) (s : State) : Steady s (classify p f s) := by
  have offers (q : QueueId) (r : FrameRecord) (t : State) : Steady t (offer q r t) := .of_traffic (offer_onlyTraffic t q r)
  have counts (i : Fin 48) : Steady s (countHit i s) := .of_traffic (setHits_onlyTraffic s _)
  unfold classify
  split
  · exact offers _ _ s
  · split
    · split
      · exact offers _ _ s
      · exact .refl s
    · dsimp only
      split <;> split
      · exact (counts _).trans ((runExtractors_steady _ f _).trans (offers _ _ _))
      · exact (counts _).trans (offers _ _ _)
      · exact (counts _).trans (runExtractors_steady _ f _)
      · exact counts _

theorem arrive_steady (p : Port) (f : Frame) (s : State) : Steady s (arrive p f s) := by
  have counted (r : PortRec) : Steady s (s.setPort p r) := .of_traffic (setPort_onlyTraffic s p r)
  unfold arrive
  dsimp only
  split
  · split
    · exact (counted _).trans (.of_traffic (intake_onlyTraffic _ f))
    · exact (counted _).trans (classify_steady p f _)
  · exact .refl s

/-! ## Attempts (chapter 2) -/

theorem startAttempt_steady (p : Port) (s : State) : Steady s (startAttempt p s) := by
  unfold startAttempt
  split
  · exact .refl s
  · split
    · exact .refl s
    · split
      · exact .refl s
      · exact (Steady.of_drive (rewriteEffect_onlyDrive s _)).trans (.of_traffic (setPort_onlyTraffic _ _ _))
    · split
      · exact .refl s
      · exact .of_traffic (setPort_onlyTraffic s _ _)

/-- The originating block of a local success keeps both, unless the success is that of the response to a RESTART (R174). -/
theorem tellSuccess_steady (src : Source) (stale : Bool) (s : State) :
    Steady s (tellSuccess src stale s) ∨ (s.engine.restart.isSome ∧ tellSuccess src stale s = softReset s) := by
  unfold tellSuccess
  split
  · exact .inl (.of_drive (onLockoutSuccess_onlyDrive s stale))
  · split
    · split
      · exact .inr ⟨by simp [*], rfl⟩
      · exact .inl (.of_traffic (serveWaiting_onlyTraffic s))
    · exact .inl (.of_traffic (serveWaiting_onlyTraffic s))
  all_goals exact .inl (.refl s)

theorem softReset_clock (s : State) : (softReset s).clock = 0 := by rw [softReset_eq]

theorem softReset_bank (s : State) : (softReset s).tables.active = s.tables.active := by rw [softReset_eq]

theorem endInSuccess_steady (p : Port) (s : State) : Steady s (endInSuccess p s)
    ∨ (s.engine.restart.isSome ∧ (endInSuccess p s).clock = 0 ∧ (endInSuccess p s).tables.active = s.tables.active) := by
  have done : Steady s (succeeded p s) := .of_traffic (setPort_onlyTraffic s p _)
  rcases attempt_cases s p with h | ⟨a, h, src⟩ | ⟨a, h, src⟩
  · rw [endInSuccess_idle h]
    exact .inl (.refl s)
  · rw [endInSuccess_output h src]
    exact .inl (done.trans (.of_traffic (recordSuccess_onlyTraffic _ p)))
  · have gone (x : State) : Steady x (settleDrained p (sent p a.source x)) :=
      .of_traffic (((setPort_onlyTraffic x p _).trans (setPlaces_onlyTraffic _ _)).trans (settleDrained_onlyTraffic _ p))
    have left := done.trans (gone (succeeded p s))
    rw [endInSuccess_local h src, localSuccess_eq]
    rcases tellSuccess_steady a.source (staleAt a.source (succeeded p s)) (settleDrained p (sent p a.source (succeeded p s)))
      with told | ⟨pending, told⟩
    · exact .inl (left.trans told)
    · refine .inr ⟨by simpa [sent, succeeded] using pending, ?_, ?_⟩
      · rw [told, softReset_clock]
      · rw [told, softReset_bank]
        exact left.bank

/-! ## A bank taken into force (R157, R160) -/

theorem tablesTaken_clock (s : State) : (tablesTaken s).clock = s.clock := by
  unfold tablesTaken
  rw [loadStatusTimer_clock, (onTablesTaken_onlyDrive _).clock]
  simp

theorem activationCopy_clock (s : State) : (activationCopy s).clock = s.clock := tablesTaken_clock _

theorem completeValidation_clock (v : Service) (s : State) : (completeValidation v s).clock = s.clock := by
  unfold completeValidation
  split
  · exact (finishService_onlyTraffic _ _ _).clock
  · split
    · exact (finishService_onlyTraffic _ _ _).clock
    · split
      · exact activationCopy_clock s
      · exact ((finishService_onlyTraffic _ _ _).clock).trans (activationCopy_clock s)

theorem completeLoad_clock (s : State) : (completeLoad s).clock = s.clock :=
  ((serveWaiting_onlyTraffic _).clock).trans (tablesTaken_clock _)

theorem completeStore_steady (v : Service) (equal : Bool) (s : State) : Steady s (completeStore v equal s) := by
  unfold completeStore
  split
  all_goals exact ⟨(finishService_onlyTraffic _ _ _).clock, (finishService_onlyTraffic _ _ _).bank⟩

theorem leaveUnloaded_app (s : State) : (leaveUnloaded s).ctl.app = .road := by
  have lamp (c : Controller) (l : Lamp) : (c.setLamp l).app = c.app := by rw [Controller.setLamp_keeps]
  have reported (x : Cause) (i : Option Nat) (b : Bool) (y : State) : (if b then report x i y else y).ctl = y.ctl := by
    cases b <;> rfl
  unfold leaveUnloaded
  dsimp only
  simp only [evaluateCeiling_ctl, reported, nameContent_ctl, State.setCtl_ctl, lamp, Controller.changeApp]

/-- A bank taken in ROAD or UNLOADED leaves the part in ROAD (R104, R157). -/
theorem tablesTaken_road (h : s.ctl.app = .road ∨ s.ctl.app = .unloaded) : (tablesTaken s).ctl.app = .road := by
  unfold tablesTaken onTablesTaken
  rw [loadStatusTimer_ctl]
  dsimp only
  split
  · exact leaveUnloaded_app _
  · exact h.resolve_right ‹_›

/-- A validation that changes the Active bank does so in ROAD or UNLOADED, and leaves it in ROAD (R157). -/
theorem completeValidation_bank (v : Service) (changed : (completeValidation v s).tables.active ≠ s.tables.active) :
    (s.ctl.app = .road ∨ s.ctl.app = .unloaded) ∧ (completeValidation v s).ctl.app = .road := by
  unfold completeValidation at changed ⊢
  split at changed
  · exact absurd (finishService_onlyTraffic _ _ _).bank changed
  · rename_i refused
    have released := not_not.mp refused
    have taken : (activationCopy s).ctl.app = .road := tablesTaken_road released
    refine ⟨released, ?_⟩
    rw [if_neg refused]
    split at changed
    · exact absurd (finishService_onlyTraffic _ _ _).bank changed
    · split
      · exact taken
      · rw [(finishService_onlyTraffic _ _ _).ctl]
        exact taken

/-! ## Every event -/

/-- What an event does to the Frame Clock and the Active bank. -/
theorem event_steady (e : Event c s t) :
    Steady s t
    ∨ ((∃ x, c = .powerReset x ∨ c = .pinReset x) ∧ t.clock = 0)
    ∨ ((c = .restartCountdownExpiry ∨ ((∃ p, c = .attemptSuccess p) ∧ s.engine.restart.isSome))
        ∧ t.clock = 0 ∧ t.tables.active = s.tables.active)
    ∨ (∃ v, t = completeValidation v s)
    ∨ (s.tables.origin = .loading ∧ t = completeLoad s)
    ∨ (c = .frameClockTick ∧ t.tables.active = s.tables.active) := by
  cases e with
  | nothing => exact .inl (.refl s)
  | reset x h => exact .inr (.inl ⟨⟨x, h⟩, by rw [hardReset_eq]; rfl⟩)
  | restart r h pending => exact .inr (.inr (.inl ⟨.inl h, softReset_clock s, softReset_bank s⟩))
  | arrival p f => exact .inl (arrive_steady p f s)
  | move q => exact .inl (.of_traffic (setQueue_onlyTraffic s q _))
  | start p => exact .inl (startAttempt_steady p s)
  | success p h =>
    rcases endInSuccess_steady p s with steady | ⟨pending, clock, bank⟩
    · exact .inl steady
    · exact .inr (.inr (.inl ⟨.inr ⟨⟨p, h⟩, pending⟩, clock, bank⟩))
  | failure p => exact .inl (.of_traffic (endInFailure_onlyTraffic s p))
  | loss p => exact .inl (.of_traffic (endInLoss_onlyTraffic s p))
  | recovery p => exact .inl (.of_traffic (recover_onlyTraffic s p))
  | pin i low => exact .inl (.of_drive (setCtl_onlyDrive s _))
  | input i => exact .inl (.of_drive ((setCtl_onlyDrive s _).trans (onInput_onlyDrive _ i)))
  | freshness i => exact .inl ((slotError_steady i true s).trans (.of_drive (notifyRoles_onlyDrive _ _ _)))
  | hold i => exact .inl (Steady.trans (t := s.setSlot i _) ⟨rfl, rfl⟩ (.of_drive (notifyRoles_onlyDrive _ _ _)))
  | phaseTimer => exact .inl (.of_drive (onPhaseTimer_onlyDrive s))
  | creep => exact .inl (.of_drive (disengageFor_onlyDrive s _ _))
  | ceiling => exact .inl (.of_drive ((setCeil_onlyDrive s _).trans (evaluateCeiling_onlyDrive _)))
  | reassertion => exact .inl (.of_drive (emitLockout_onlyDrive s))
  | evaluation k =>
    obtain ⟨tank, faults, level, e⟩ := evaluateComp_shape k (s.setComp k { s.tank.comps[k] with evalTimer := some 100 })
    rw [e]
    exact .inl ⟨rfl, rfl⟩
  | senderHold k => exact .inl ⟨rfl, rfl⟩
  | report => exact .inl ⟨rfl, rfl⟩
  | status => exact .inl ⟨rfl, rfl⟩
  | flash => exact .inl (.of_drive (setCtl_onlyDrive s _))
  | validated v => exact .inr (.inr (.inr (.inl ⟨v, rfl⟩)))
  | stored v equal => exact .inl (completeStore_steady v equal s)
  | loaded loading => exact .inr (.inr (.inr (.inr (.inl ⟨loading, rfl⟩))))
  | tick h => exact .inr (.inr (.inr (.inr (.inr ⟨h, rfl⟩))))

/-- Settles O6: by what the event does to the Frame Clock. -/
theorem onlyTicksAdvanceTheClock : Obligations.OnlyTicksAdvanceTheClock := by
  unfold Obligations.OnlyTicksAdvanceTheClock
  intro c s t e notTick
  rcases event_steady (exec_event e) with steady | ⟨reset, zero⟩ | ⟨restart, zero, -⟩ | ⟨v, rfl⟩ | ⟨-, rfl⟩ | ⟨tick, -⟩
  · exact .inl steady.clock
  · exact .inr ⟨zero, .inl reset⟩
  · refine .inr ⟨zero, .inr (restart.imp_right ?_)⟩
    rintro ⟨⟨p, success⟩, pending⟩
    exact ⟨p, success, pending⟩
  · exact .inl (completeValidation_clock v s)
  · exact .inl (completeLoad_clock s)
  · exact absurd tick notTick

/-- Settles O55: by what the event does to the Active bank. -/
theorem activeBankChangesOnlyInRoadOrUnloaded : Obligations.ActiveBankChangesOnlyInRoadOrUnloaded := by
  unfold Obligations.ActiveBankChangesOnlyInRoadOrUnloaded
  intro c s t tables noReset e changed
  rcases event_steady (exec_event e) with steady | ⟨⟨x, reset⟩, -⟩ | ⟨-, -, same⟩ | ⟨v, rfl⟩ | ⟨loading, rfl⟩ | ⟨-, same⟩
  · exact absurd steady.bank changed
  · exact absurd reset (not_or.mpr (noReset x))
  · exact absurd same changed
  · exact completeValidation_bank v changed
  · have unloaded : s.ctl.app = .unloaded := tables.unloaded.mpr (.inr loading)
    refine ⟨.inr unloaded, ?_⟩
    unfold completeLoad
    rw [(serveWaiting_onlyTraffic _).ctl]
    exact tablesTaken_road (.inr unloaded)
  · exact absurd same changed

end Sys2Proof.Proofs.ClockAndBank

/-! PROOF. Single operations on their own: the search, the filter, the lockout frame and the capture record (R9 to R14, R122, R123,
R134, R175, R177, R178). -/

namespace Sys2Proof.Proofs.Operations

open Sys2Proof.Machine Sys2Proof.Safety Sys2Proof.Laws.Terms Sys2Proof.Proofs.Fields

/-! ## The search (R9 to R14) -/

/-- The identifier test bit by bit (R10). -/
theorem identAgrees_iff (base mask ident : Ident) :
    identAgrees base mask ident = true ↔ ∀ k < 29, mask.getLsbD k = true ∨ ident.getLsbD k = base.getLsbD k := by
  unfold identAgrees
  rw [beq_iff_eq]
  constructor
  · intro agrees k below
    have bit := congrArg (·.getLsbD k) agrees
    simp only [BitVec.getLsbD_and, BitVec.getLsbD_xor, BitVec.getLsbD_not, below, decide_true, Bool.true_and,
      BitVec.ofNat_eq_ofNat, BitVec.getLsbD_zero] at bit
    revert bit
    cases mask.getLsbD k <;> cases ident.getLsbD k <;> cases base.getLsbD k <;> decide
  · intro bits
    apply BitVec.eq_of_getLsbD_eq
    intro k below
    simp only [BitVec.getLsbD_and, BitVec.getLsbD_xor, BitVec.getLsbD_not, below, decide_true, Bool.true_and,
      BitVec.ofNat_eq_ofNat, BitVec.getLsbD_zero]
    rcases bits k below with masked | same
    · simp [masked]
    · simp [same]

theorem has_iff (ports : PortSet) (p : Port) : ports.has p = true ↔
    ports = .both ∨ (ports = .chassis ∧ p = .chassis) ∨ (ports = .body ∧ p = .body) := by
  cases ports <;> cases p <;> decide

theorem accepts_iff (e : FctEntry) (p : Port) (cls : Nat) (format : Format) (kind : FrameKind) (ident : Ident) :
    e.accepts p cls format kind ident = true ↔ Matches e p cls format kind ident := by
  simp only [FctEntry.accepts, Matches, Bool.and_eq_true, beq_iff_eq, has_iff, identAgrees_iff, and_assoc]

theorem search_eq (b : Bank) (p : Port) (cls : Nat) (format : Format) (kind : FrameKind) (ident : Ident) :
    b.search p cls format kind ident = Fin.find? fun i => b.fct[i].accepts p cls format kind ident :=
  Fin.find?_eq_find?_finRange.symm

/-- Settles O9: the first index at which the entry accepts. -/
theorem searchFindsTheFirstMatch : Obligations.SearchFindsTheFirstMatch := by
  unfold Obligations.SearchFindsTheFirstMatch
  intro b p cls format kind ident
  refine ⟨fun i => ?_, ?_, ?_⟩
  · rw [search_eq, Fin.find?_eq_some_iff]
    simp only [← accepts_iff, Bool.not_eq_true]
  · rw [search_eq, Fin.find?_eq_none_iff]
    simp only [← accepts_iff, Bool.not_eq_true]
  · rw [search_eq, Fin.find?_eq_none_iff]
    intro i
    have remote : (FrameKind.remote == FrameKind.data) = false := rfl
    simp [FctEntry.accepts, remote]

/-! ## The filter (R134) -/

theorem filtered_below {f l : Nat} (k : Nat) (h : f ≤ 16 * l) :
    f ≤ filtered (some f) l k ∧ filtered (some f) l k ≤ 16 * l ∧ (f < 16 * l → f < filtered (some f) l k) := by
  have part : (16 * l - f) / 2 ^ k ≤ 16 * l - f := Nat.div_le_self _ _
  simp only [filtered]
  split
  · omega
  · rw [if_neg (by omega)]
    omega

theorem filtered_above {f l : Nat} (k : Nat) (h : 16 * l ≤ f) :
    16 * l ≤ filtered (some f) l k ∧ filtered (some f) l k ≤ f ∧ (16 * l < f → filtered (some f) l k < f) := by
  have part : (f - 16 * l) / 2 ^ k ≤ f - 16 * l := Nat.div_le_self _ _
  simp only [filtered]
  rw [if_neg (by omega)]
  split <;> omega

theorem filtered_whole (f l : Nat) : filtered (some f) l 0 = 16 * l := by
  simp only [filtered, Nat.pow_zero, Nat.div_one]
  split
  · omega
  · split <;> omega

/-- Settles O42: below and above the level. -/
theorem filterNeverPassesTheLevel : Obligations.FilterNeverPassesTheLevel := by
  unfold Obligations.FilterNeverPassesTheLevel
  intro l k
  refine ⟨rfl, fun f => ?_⟩
  dsimp only
  rw [filterNext_eq]
  refine ⟨filtered_below k, filtered_above k, ?_, fun h low level => ?_⟩
  · rintro rfl
    exact filtered_whole f l
  · have stays : filtered (some f) l k ≤ 16 * h := by
      rcases Nat.le_total f (16 * l) with below | above
      · have reach := (filtered_below k below).2.1
        omega
      · have reach := (filtered_above k above).2.1
        omega
    omega

/-! ## The lockout frame (R119, R122, R123) -/

/-- A byte is its eight data bits (R1). -/
theorem dataByte_congr {d d' : List Byte} {i : Nat} (h : ∀ n, n / 8 = i → dataBit d n = dataBit d' n) :
    dataByte d i = dataByte d' i := by
  apply BitVec.eq_of_getLsbD_eq
  intro k below
  have bit := h (8 * i + k) (by omega)
  unfold dataBit at bit
  rwa [show (8 * i + k) / 8 = i by omega, show (8 * i + k) % 8 = k by omega] at bit

/-- A field's value lies in the field's own bits (R2). -/
theorem readField_congr {f : Field} {d d' : List Byte} (geometry : f.geometryOk = true)
    (h : ∀ n ∈ f.bits, dataBit d n = dataBit d' n) : readField f d = readField f d' := by
  cases ho : f.order with
  | lowFirst =>
    rw [readField_lowFirst d ho, readField_lowFirst d' ho]
    apply Nat.eq_of_testBit_eq
    intro k
    rw [testBit_readLow, testBit_readLow]
    by_cases inside : k < f.width
    · rw [h _ ((mem_bits_lowFirst ho _).mpr (by omega))]
    · simp [inside]
  | highFirst =>
    have byte (i : Nat) (inside : i < f.width / 8) : dataByte d (f.start / 8 + i) = dataByte d' (f.start / 8 + i) :=
      dataByte_congr fun n at_ => h n ((mem_bits_highFirst ho n).mpr (by omega))
    rcases width_of_highFirst ho geometry with hw | hw
    · rw [readField_highFirst_byte d ho hw, readField_highFirst_byte d' ho hw]
      exact congrArg BitVec.toNat (byte 0 (by omega))
    · have high := byte 0 (by omega)
      rw [readField_highFirst_word d ho hw, readField_highFirst_word d' ho hw, byte 1 (by omega)]
      rw [Nat.add_zero] at high
      rw [high]

theorem checkTemplate_passes {t : Template} (h : checkTemplate t = none) :
    t.lockField.geometryOk = true ∧ t.rangeField.geometryOk = true ∧ t.lockField.fits t.length = true
      ∧ t.rangeField.fits t.length = true ∧ ∀ n ∈ t.lockField.bits, n ∉ t.rangeField.bits := by
  unfold checkTemplate failWhen at h
  simp only [reduceCtorEq, ite_eq_right_iff, imp_false, Bool.not_eq_true, Bool.or_eq_false_iff,
    Bool.not_eq_false', List.any_eq_false, List.contains_iff_mem] at h
  obtain ⟨⟨⟨⟨lock, range⟩, lockFits⟩, rangeFits⟩, apart⟩ := h
  exact ⟨lock, range, lockFits, rangeFits, apart⟩

theorem dataBit_take {d : List Byte} {n k : Nat} (h : n < 8 * k) : dataBit (d.take k) n = dataBit d n := by
  unfold dataBit dataByte
  simp only [List.getD_eq_getElem?_getD]
  rw [List.getElem?_take_of_lt (by omega)]

/-- Settles O38: the range field written last, the lock-state field apart from it. -/
theorem lockoutFramesCarryCodeAndRange : Obligations.LockoutFramesCarryCodeAndRange := by
  unfold Obligations.LockoutFramesCarryCodeAndRange
  intro t lock range valid short wide lockCode rangeCode
  obtain ⟨lockGeometry, rangeGeometry, lockFits, rangeFits, apart⟩ := checkTemplate_passes valid
  have cut : (t.data.toList.take t.length).length = t.length := by
    rw [List.length_take, Vector.length_toList, Nat.min_eq_left short]
  have lockWide : lock < 2 ^ t.lockField.width :=
    lockCode.trans_le (Nat.pow_le_pow_right (n := 2) (by decide) wide)
  refine ⟨rfl, rfl, rfl, rfl, ?_, ?_, ?_, fun n inside notLock notRange => ?_⟩
  · simp only [Template.form, length_writeField, cut]
  · simp only [Template.form]
    rw [readField_congr lockGeometry fun n mem => dataBit_writeField_of_notMem _ range rangeGeometry (apart n mem)]
    exact readField_writeField _ lockGeometry (by rwa [cut]) lockWide
  · simp only [Template.form]
    exact readField_writeField _ rangeGeometry (by rwa [length_writeField, cut]) rangeCode
  · simp only [Template.form]
    rw [dataBit_writeField_of_notMem _ range rangeGeometry notRange, dataBit_writeField_of_notMem _ lock lockGeometry notLock,
      dataBit_take inside]

/-! ## The capture record (R175, R177, R178) -/

theorem causeTable_iff (c : Cause) (code : Nat) (severity : Severity) :
    (code, c, severity) ∈ causeTable ↔ c.code = code ∧ c.severity = severity := by
  cases c <;> simp [causeTable, Cause.code, Cause.severity, eq_comm]

theorem getLsbD_flag (c : Cause) (k : Nat) : c.flag.getLsbD k = (c.code == k + 1) := by
  have codes : 1 ≤ c.code ∧ c.code ≤ 24 := by cases c <;> decide
  unfold Cause.flag
  rw [Bool.eq_iff_iff]
  simp only [BitVec.getLsbD_shiftLeft, BitVec.getLsbD_one, Bool.and_eq_true, decide_eq_true_eq, Bool.not_eq_true',
    decide_eq_false_iff_not, beq_iff_eq]
  omega

/-- One report taken, as the list of reports has it. -/
def taken (u : FaultUnit) (r : Cause × Option Nat × AppState × Clock) : FaultUnit := u.take r.1 r.2.1 r.2.2.1 r.2.2.2

theorem taken_flags (reports : List (Cause × Option Nat × AppState × Clock)) (u : FaultUnit) (k : Nat) :
    (reports.foldl taken u).flags.getLsbD k = (u.flags.getLsbD k || reports.any fun r => r.1.code == k + 1) := by
  induction reports generalizing u with
  | nil => simp
  | cons r rest ih =>
    have one : (taken u r).flags.getLsbD k = (u.flags.getLsbD k || r.1.code == k + 1) := by
      rw [← getLsbD_flag]
      exact BitVec.getLsbD_or
    rw [List.foldl_cons, ih, one, List.any_cons, Bool.or_assoc]

/-- Reports below a severity leave a record that is below it (R177). -/
theorem taken_lower {level : Nat} (reports : List (Cause × Option Nat × AppState × Clock)) (u : FaultUnit)
    (below : ∀ r ∈ reports, r.1.severity.code < level) (held : ∀ x ∈ u.record, x.severity.code < level) :
    ∀ x ∈ (reports.foldl taken u).record, x.severity.code < level := by
  induction reports generalizing u with
  | nil => exact held
  | cons r rest ih =>
    refine ih (taken u r) (fun x mem => below x (List.mem_cons_of_mem r mem)) ?_
    intro x mem
    have first := below r List.mem_cons_self
    unfold taken FaultUnit.take captureRule at mem
    dsimp only at mem
    split at mem
    · cases mem
      exact first
    · rename_i y record
      split at mem
      · cases mem
        exact first
      · cases mem
        exact held y record

/-- A report above the record is captured (R177). -/
theorem taken_higher {u : FaultUnit} (cause : Cause) (index : Option Nat) (app : AppState) (clock : Clock)
    (held : ∀ x ∈ u.record, x.severity.code < cause.severity.code) :
    (taken u (cause, index, app, clock)).record = some ⟨cause.severity, cause, index, app, clock, 0⟩ := by
  unfold taken FaultUnit.take
  dsimp only
  cases record : u.record with
  | none => exact captureRule_empty _
  | some x => exact captureRule_higher (held x record)

/-- Reports that do not exceed the record are counted, up to 255 (R177). -/
theorem taken_counted {x : Capture} (reports : List (Cause × Option Nat × AppState × Clock)) (u : FaultUnit)
    (record : u.record = some x) (few : x.suppressed ≤ 255) (below : ∀ r ∈ reports, r.1.severity.code ≤ x.severity.code) :
    (reports.foldl taken u).record = some { x with suppressed := min 255 (x.suppressed + reports.length) } := by
  induction reports generalizing u x with
  | nil => rw [List.foldl_nil, record, List.length_nil, Nat.add_zero, Nat.min_eq_right few]
  | cons r rest ih =>
    have one : (taken u r).record = some { x with suppressed := min 255 (x.suppressed + 1) } := by
      unfold taken FaultUnit.take
      dsimp only
      rw [record]
      exact captureRule_counted (by exact below r List.mem_cons_self)
    rw [List.foldl_cons, ih (taken u r) one (Nat.min_le_left _ _) fun y mem => below y (List.mem_cons_of_mem r mem)]
    simp only [List.length_cons]
    congr 2
    omega

/-- Settles O54: the reports before the captured one, the captured one, and those after it. -/
theorem captureKeepsTheEarliestOfTheHighest : Obligations.CaptureKeepsTheEarliestOfTheHighest := by
  unfold Obligations.CaptureKeepsTheEarliestOfTheHighest
  refine ⟨fun c index s => rfl, causeTable_iff, by decide, fun flags reports => ⟨?_, taken_flags reports ⟨none, flags⟩⟩⟩
  rintro earlier later cause index app clock rfl lower atMost
  have before := taken_lower earlier ⟨none, flags⟩ lower (by simp)
  have captured := taken_higher cause index app clock before
  have counted := taken_counted later _ captured (Nat.zero_le _) atMost
  rw [Nat.zero_add] at counted
  rw [List.foldl_append, List.foldl_cons]
  exact counted

end Sys2Proof.Proofs.Operations

/-! PROOF. The start of an attempt: the arbiter's choice and the rewrite of a record (R24, R31, R32, R38, R114 to R117). -/

namespace Sys2Proof.Proofs.Arbiter

open Sys2Proof.Machine Sys2Proof.Safety Sys2Proof.Laws.Terms Sys2Proof.Proofs.Fields Sys2Proof.Proofs.Grading
open Sys2Proof.Proofs.Placing

variable {s : State} {p : Port} {src : Source} {r : FrameRecord} {f : Field}

/-! ## The choice (R38) -/

/-- The order of the RESPONSE places and the BUSY place (R38). -/
def answerOrder (pl : Places) : List Source :=
  (if pl.respOlder = .first then [.response .first, .response .second] else [.response .second, .response .first]) ++ [.busy]

theorem answerTurn_eq (pl : Places) : pl.answerTurn = (answerOrder pl).find? fun x => (pl.at x).isSome := by
  have first : pl.at (.response .first) = pl.resp1 := rfl
  have second : pl.at (.response .second) = pl.resp2 := rfl
  have busy : pl.at .busy = pl.busy := rfl
  unfold Places.answerTurn Places.responseTurn answerOrder
  cases older : pl.respOlder <;> cases h1 : pl.resp1 <;> cases h2 : pl.resp2 <;> cases h3 : pl.busy <;>
    simp [first, second, busy, h1, h2, h3]

/-- The output stage's turn, after every local place (R38). -/
def outputTurn (s : State) (p : Port) : Option Source :=
  if (s.port p).st ≠ .stopped ∧ (s.queue (queueToward p)).out.isSome then some .output else none

/-- The arbiter takes the first eligible local place that holds a frame, then the output stage (R38). -/
theorem pick_eq (up : (s.port p).st ≠ .busFault) :
    s.pick p = ((localOrder s p).find? fun x => (s.places.at x).isSome).or (outputTurn s p) := by
  cases p with
  | chassis =>
    have st : (s.port .chassis).st = s.chassis.st := rfl
    have out : (s.queue (queueToward .chassis)).out = s.bc.out := rfl
    have at_ : s.places.at .lockout = s.places.lockout.cur := rfl
    unfold State.pick localOrder outputTurn
    rw [st] at up ⊢
    rw [out]
    cases stopped : s.chassis.st with
    | busFault => exact absurd stopped up
    | stopped => simp
    | active | quiescing => cases h : s.places.lockout.cur <;> simp [at_, h]
  | body =>
    have st : (s.port .body).st = s.body.st := rfl
    have out : (s.queue (queueToward .body)).out = s.cb.out := rfl
    have status : s.places.at .status = s.places.status.cur := rfl
    have level : s.places.at .level = s.places.level.cur := rfl
    have order : localOrder s .body = answerOrder s.places ++ (if s.body.st = .stopped then [] else [.status, .level]) := by
      simp [localOrder, answerOrder]
    rw [order, List.find?_append, ← answerTurn_eq]
    unfold State.pick outputTurn
    rw [st] at up ⊢
    rw [out]
    cases stopped : s.body.st with
    | busFault => exact absurd stopped up
    | stopped => simp
    | active | quiescing =>
      cases s.places.answerTurn <;> cases h1 : s.places.status.cur <;> cases h2 : s.places.level.cur <;>
        simp [status, level, h1, h2]

theorem pick_local {before after : List Source} {frame : LocalFrame} (up : (s.port p).st ≠ .busFault)
    (order : localOrder s p = before ++ src :: after) (empty : ∀ x ∈ before, s.places.at x = none)
    (held : s.places.at src = some frame) : s.pick p = some src := by
  have passed : before.find? (fun x => (s.places.at x).isSome) = none :=
    List.find?_eq_none.mpr fun x mem => by simp [empty x mem]
  rw [pick_eq up, order, List.find?_append, passed, List.find?_cons_of_pos (by simp [held])]
  rfl

theorem pick_noLocal (up : (s.port p).st ≠ .busFault) (empty : ∀ x ∈ localOrder s p, s.places.at x = none) :
    s.pick p = outputTurn s p := by
  have passed : (localOrder s p).find? (fun x => (s.places.at x).isSome) = none :=
    List.find?_eq_none.mpr fun x mem => by simp [empty x mem]
  rw [pick_eq up, passed]
  rfl

theorem pick_busFault (down : (s.port p).st = .busFault) : s.pick p = none := by
  cases p <;> simp only [State.pick, down]

/-- The output stage's turn comes where no local frame stands before it (R38). -/
theorem pick_output (h : TakesOutput s p r) : s.pick p = some .output := by
  obtain ⟨-, receives, out, empty⟩ := h
  have up : (s.port p).st ≠ .busFault := by rcases receives with st | st <;> simp [st]
  have running : (s.port p).st ≠ .stopped := by rcases receives with st | st <;> simp [st]
  rw [pick_noLocal up]
  · unfold outputTurn
    rw [if_pos ⟨running, by simp [out]⟩]
  · intro x mem
    cases p with
    | chassis =>
      simp only [localOrder] at mem
      split at mem
      · cases mem
      · cases List.mem_singleton.mp mem
        exact empty
    | body =>
      obtain ⟨resp1, resp2, busy, status, level⟩ := empty
      have places : x = .response .first ∨ x = .response .second ∨ x = .busy ∨ x = .status ∨ x = .level := by
        simp only [localOrder, List.mem_append, List.mem_cons] at mem
        rcases mem with mem | mem | mem
        · split at mem <;> simp at mem <;> tauto
        · tauto
        · split at mem
          · cases mem
          · simp at mem
            tauto
      rcases places with rfl | rfl | rfl | rfl | rfl <;> assumption

/-! ## The start (R31, R32) -/

theorem startAttempt_local {frame : LocalFrame} (idle : (s.port p).attempt = none) (picked : s.pick p = some src)
    (held : s.places.at src = some frame) :
    startAttempt p s = s.setPort p { s.port p with attempt := some ⟨src, frame.frame⟩ } := by
  unfold startAttempt
  rw [if_neg (by simp [idle]), picked]
  cases src with
  | output => cases held
  | lockout | response | busy | status | level =>
    dsimp only
    rw [held]

theorem startAttempt_none (idle : (s.port p).attempt = none) (picked : s.pick p = none) : startAttempt p s = s := by
  unfold startAttempt
  rw [if_neg (by simp [idle]), picked]

/-- The record in the output stage starts its attempt: the unit records the rewrite, and the port takes the outgoing frame (R32,
R114). -/
theorem startAttempt_output (h : TakesOutput s p r) : startAttempt p s =
    (rewriteEffect r s).setPort p { s.port p with attempt := some ⟨.output, r.frame (s.outgoing r)⟩ } := by
  have picked := pick_output h
  obtain ⟨idle, -, out, -⟩ := h
  unfold startAttempt
  rw [if_neg (by simp [idle]), picked]
  dsimp only
  rw [out]
  dsimp only
  rw [(rewriteEffect_onlyDrive s r).port]

theorem rewriteEffect_plain (h : r.action ≠ .rangeGuard) : rewriteEffect r s = s := by
  unfold rewriteEffect
  split
  · exact absurd ‹_› h
  · rfl

theorem outgoing_plain (h : r.action = .pass ∨ r.action = .tap ∨ r.action = .none) : s.outgoing r = r.data := by
  unfold State.outgoing
  rcases h with h | h | h <;> rw [h]

/-- Settles O16: by what the arbiter takes. -/
theorem arbiterTakesTheFirstEligibleFrame : Obligations.ArbiterTakesTheFirstEligibleFrame := by
  unfold Obligations.ArbiterTakesTheFirstEligibleFrame
  intro s p idle
  refine ⟨fun before src after f up order empty held => congrArg Host.Outcome.next ?_,
    fun r takes plain => congrArg Host.Outcome.next ?_, fun nothing => congrArg Host.Outcome.next ?_⟩
  · exact startAttempt_local idle (pick_local up order empty held) held
  · rw [startAttempt_output takes, outgoing_plain plain, rewriteEffect_plain (by rcases plain with h | h | h <;> simp [h])]
    rfl
  · refine startAttempt_none idle ?_
    rcases nothing with down | ⟨empty, turn⟩
    · exact pick_busFault down
    · by_cases down : (s.port p).st = .busFault
      · exact pick_busFault down
      · rw [pick_noLocal down empty]
        unfold outputTurn
        rcases turn with stopped | out
        · simp [stopped]
        · simp [out]

/-! ## The rewrite (R32, R115 to R117) -/

theorem readField_lt {d : List Byte} (geometry : f.geometryOk = true) : readField f d < 2 ^ f.width := by
  cases order : f.order with
  | lowFirst =>
    rw [readField_lowFirst d order]
    exact readLow_lt d _ _
  | highFirst =>
    rcases width_of_highFirst order geometry with width | width
    · rw [readField_highFirst_byte d order width, width]
      exact (dataByte d (f.start / 8)).isLt
    · rw [readField_highFirst_word d order width, width]
      have high := (dataByte d (f.start / 8)).isLt
      have low := (dataByte d (f.start / 8 + 1)).isLt
      omega

/-- A record that leaves with a value in its field (R32). -/
theorem sentWith_writeField (h : HoldsField r f) {value : Nat} (fitting : value < 2 ^ f.width) :
    SentWith r f value ⟨.output, r.frame (writeField f value r.data)⟩ where
  source := rfl
  ident := rfl
  format := rfl
  kind := rfl
  length := rfl
  bytes := length_writeField _ f value
  value := readField_writeField _ h.geometry (by rw [h.data]; exact h.fits) fitting
  others := fun _ outside => dataBit_writeField_of_notMem _ value h.geometry outside

theorem clampValue_eq {e scale width v : Nat} (wide : 2 ≤ width) :
    clampValue e scale width v = if v = 2 ^ width - 1 then v else min v (e * scale / 1000) := by
  unfold clampValue
  by_cases none_ : v = 2 ^ width - 1
  · rw [if_pos ((notAvailable_iff width v).mpr ⟨wide, none_⟩), if_pos none_]
  · rw [if_neg (mt (notAvailable_iff width v).mp fun h => none_ h.2), if_neg none_]

theorem clampValue_le (e scale width v : Nat) : clampValue e scale width v ≤ v := by
  unfold clampValue
  split
  · exact Nat.le_refl v
  · exact Nat.min_le_left _ _

/-- Settles O17: the clamped value in the record's field. -/
theorem clampLimitsItsField : Obligations.ClampLimitsItsField := by
  unfold Obligations.ClampLimitsItsField
  intro s p r f scale takes action holds fullScale wide
  dsimp only
  have data : s.outgoing r = writeField f (clampValue s.ceil.e scale f.width (readField f r.data)) r.data := by
    unfold State.outgoing
    rw [action, holds.edit, fullScale]
  refine ⟨⟨.output, r.frame (s.outgoing r)⟩, congrArg Host.Outcome.next ?_, ?_⟩
  · rw [startAttempt_output takes, rewriteEffect_plain (by simp [action])]
  · rw [data, ← clampValue_eq wide]
    exact sentWith_writeField holds ((clampValue_le _ _ _ _).trans_lt (readField_lt holds.geometry))

/-- What a RANGE_GUARD call changes (R116, R117, R119, R120). -/
theorem guardEffect_eq (code : Nat) (s : State) : guardEffect code s =
    if s.ctl.app = .road then { s with ceil := { s.ceil with lastRange := code } }
    else if s.ctl.app = .roll ∧ code ∈ s.tables.active.params.rollSet ∧ code ≠ s.ceil.lastRange then
      { s with
        ceil := { s.ceil with
          lastRange := code, content := .restrict, reassert := some s.tables.active.params.reassertLoad }
        places := { s.places with
          lockout := generated s.chassis .lockout (s.tables.active.template.form 3 code) s.places.lockout } }
    else s := by
  unfold guardEffect
  cases app : s.ctl.app with
  | road => simp
  | roll =>
    by_cases new : code ∈ s.tables.active.params.rollSet ∧ code ≠ s.ceil.lastRange
    · simp only [new, reduceCtorEq, if_false, ne_eq, not_false_eq_true, and_self, if_true, changeContent, emitLockout_eq]
      rfl
    · simp [new]
  | unloaded | mainEngaging | pump | auxEngaging | disengaging | faultHold => simp

theorem guardValue_lt {code : Nat} (narrow : code < 256) (neutral : s.tables.active.params.neutral < 256)
    (pumpRange : s.tables.active.params.pumpRange < 256) (last : s.ceil.lastRange < 256) : s.guardValue code < 256 := by
  unfold State.guardValue
  split <;> (try split) <;> assumption

/-- Settles O18: the guarded value in the record's field, and the call's effect on the unit. -/
theorem rangeGuardHoldsTheRange : Obligations.RangeGuardHoldsTheRange := by
  unfold Obligations.RangeGuardHoldsTheRange
  intro s p r f takes action holds width loaded neutral pumpRange last
  dsimp only
  have data : s.outgoing r = writeField f (s.guardValue (readField f r.data)) r.data := by
    unfold State.outgoing
    rw [action, holds.edit]
  have effect : rewriteEffect r s = guardEffect (readField f r.data) s := by
    unfold rewriteEffect
    rw [action, holds.edit]
  have narrow : readField f r.data < 256 := by
    have inside := readField_lt (d := r.data) holds.geometry
    rwa [width] at inside
  refine ⟨⟨.output, r.frame (s.outgoing r)⟩, congrArg Host.Outcome.next ?_, ?_⟩
  · rw [startAttempt_output takes, effect, guardEffect_eq]
    rfl
  · rw [data]
    have sent := sentWith_writeField holds (value := s.guardValue (readField f r.data))
      (by rw [width]; exact guardValue_lt narrow neutral pumpRange last)
    have value : s.guardValue (readField f r.data) =
        match s.ctl.app with
        | .unloaded | .road => readField f r.data
        | .mainEngaging =>
          if s.ctl.phase = .c then s.tables.active.params.pumpRange else s.tables.active.params.neutral
        | .pump => s.tables.active.params.pumpRange
        | .roll => if readField f r.data ∈ s.tables.active.params.rollSet then readField f r.data else s.ceil.lastRange
        | .auxEngaging | .disengaging | .faultHold => s.tables.active.params.neutral := by
      unfold State.guardValue
      cases s.ctl.app <;> rfl
    exact value ▸ sent

end Sys2Proof.Proofs.Arbiter

/-! PROOF. How an attempt ends: success, loss, failure, abandonment and the bus fault with its recovery (R33 to R37, R40 to R42). -/

namespace Sys2Proof.Proofs.AttemptEnds

open Sys2Proof.Machine Sys2Proof.Safety Sys2Proof.Laws.Terms Sys2Proof.Proofs.Attempts Sys2Proof.Proofs.Accounts
open Sys2Proof.Proofs.Resets

variable {s : State} {p : Port} {a : Attempt} {src : Source} {f : LocalFrame} {r : FrameRecord}

/-! ## State updates that follow one another -/

theorem setPort_setPort (s : State) (p : Port) (x y : PortRec) : (s.setPort p x).setPort p y = s.setPort p y := by
  cases p <;> rfl

theorem setQueue_setPort (s : State) (p : Port) (q : QueueId) (x : PortRec) (u : Queue) :
    (s.setQueue q u).setPort p x = (s.setPort p x).setQueue q u := by
  cases p <;> cases q <;> rfl

theorem report_setPort (c : Cause) (i : Option Nat) (s : State) (p : Port) (x : PortRec) :
    (report c i s).setPort p x = report c i (s.setPort p x) := by
  cases p <;> rfl

theorem setPlaces_setPort (s : State) (p : Port) (x : PortRec) (pl : Places) :
    State.setPort { s with places := pl } p x = { s.setPort p x with places := pl } := by
  cases p <;> rfl

theorem setPlaces_port (s : State) (p : Port) (pl : Places) : State.port { s with places := pl } p = s.port p := by
  cases p <;> rfl

/-! ## Success and loss (R33, R35, R37) -/

theorem recordSuccess_succeeded (p : Port) (s : State) : recordSuccess p (succeeded p s) = stopIfDrained p
    ((s.setPort p { s.port p with
        attempt := none, run := 0, forwardedTransmitted := (s.port p).forwardedTransmitted + 1 }).setQueue (queueToward p)
      { s.queue (queueToward p) with out := none, transmitted := (s.queue (queueToward p)).transmitted + 1 }) := by
  unfold recordSuccess succeeded
  dsimp only
  rw [State.setPort_queue, State.setPort_port, setPort_setPort, settleDrained_eq]

theorem sent_succeeded (p : Port) (local_ : src ≠ .output) (s : State) : sent p src (succeeded p s) =
    { s.setPort p { s.port p with
        attempt := none, run := 0, localTransmitted := (s.port p).localTransmitted + 1 } with
      places := vacated (s.port p).refusesFrames s.places src } := by
  unfold sent succeeded
  rw [State.setPort_places, State.setPort_port, setPort_setPort, setAt_none_endAttempt _ _ _ local_]
  rfl

theorem onLockoutSuccess_elsewhere (stale : Bool) (h : s.ctl.phase ≠ .a) : onLockoutSuccess stale s = s := by
  unfold onLockoutSuccess
  split
  · exact absurd ‹_› h
  all_goals rfl

/-- The service that a freed RESPONSE place lets begin (R165). -/
def served (src : Source) (s : State) : State :=
  match src with
  | .response _ => serveWaiting s
  | .lockout | .busy | .status | .level | .output => s

/-- Outside phase A and a RESTART a local success tells nobody but the service of a held request (R33, R165). -/
theorem tellSuccess_served (stale : Bool) (phase : src = .lockout → s.ctl.phase ≠ .a)
    (running : ∀ pl, src = .response pl → ∀ x ∈ s.engine.restart, x.place ≠ pl) :
    tellSuccess src stale s = served src s := by
  unfold tellSuccess served
  cases src with
  | lockout => exact onLockoutSuccess_elsewhere stale (phase rfl)
  | response pl =>
    dsimp only
    split
    · rename_i x pending
      exact if_neg (running pl rfl x pending)
    · rfl
  | busy | status | level | output => rfl

/-- Settles O19: the output stage's record, a local frame, and the loss. -/
theorem successesAndLossesEndAttempts : Obligations.SuccessesAndLossesEndAttempts := by
  unfold Obligations.SuccessesAndLossesEndAttempts
  intro s p a attempt
  refine ⟨fun output => congrArg Host.Outcome.next ?_, fun local_ phase running => congrArg Host.Outcome.next ?_,
    congrArg Host.Outcome.next ?_⟩
  · rw [endInSuccess_output attempt output, recordSuccess_succeeded]
  · rw [endInSuccess_local attempt local_, localSuccess_eq, sent_succeeded p local_, tellSuccess_served, settleDrained_eq]
    · cases a.source <;> rfl
    · simpa using phase
    · simpa using running
  · rw [endInLoss_attempt attempt, endAttempt_eq_kept]

/-! ## Failure (R34, R37) -/

theorem recordFailure_failed (out : (s.queue (queueToward p)).out = some r) : recordFailure p (failed p s) =
    if r.attempts + 1 < 8 then
      (failed p s).setQueue (queueToward p)
        { s.queue (queueToward p) with out := some { r with attempts := r.attempts + 1 } }
    else
      report .transmitAbandoned (some (queueIndex (queueToward p))) ((failed p s).setQueue (queueToward p)
        { s.queue (queueToward p) with out := none, abandoned := (s.queue (queueToward p)).abandoned + 1 }) := by
  have queue : (failed p s).queue (queueToward p) = s.queue (queueToward p) := State.setPort_queue _ _ _ _
  by_cases few : r.attempts + 1 < 8
  · rw [if_pos few, recordFailure_retried (by rw [queue, out]) few, queue]
  · rw [if_neg few, recordFailure_abandoned (by rw [queue, out]) few, queue]

theorem ne_output_of_held (held : s.places.at src = some f) : src ≠ .output := by
  rintro rfl
  cases held

/-- The record of a port after the failure of a local frame that is abandoned (R34). -/
def abandoning (r : PortRec) : PortRec :=
  { r with
    attempt := none, run := r.run + 1, failedAttempts := r.failedAttempts + 1, localAbandoned := r.localAbandoned + 1 }

theorem localFailure_failed (held : s.places.at src = some f) : localFailure p src (failed p s) =
    if f.attempts + 1 < 8 then
      { failed p s with
        places := kept (s.port p).refusesFrames (s.places.setAt src (some { f with attempts := f.attempts + 1 })) src }
    else
      report .transmitAbandoned (some (src.index p))
        { s.setPort p (abandoning (s.port p)) with places := vacated (s.port p).refusesFrames s.places src } := by
  have places : (failed p s).places = s.places := State.setPort_places _ _ _
  have held' : (failed p s).places.at src = some f := by rw [places, held]
  have refused : ((failed p s).port p).refusesFrames = (s.port p).refusesFrames := by
    unfold failed
    rw [State.setPort_port]
    rfl
  by_cases few : f.attempts + 1 < 8
  · rw [if_pos few, localFailure_retried held' few]
    unfold retried
    rw [refused, places, endAttempt_eq_kept]
  · rw [if_neg few, localFailure_abandoned held' few]
    unfold abandoned
    rw [refused, places, setAt_none_endAttempt _ _ _ (ne_output_of_held held)]
    unfold failed abandoning
    rw [State.setPort_port, setPort_setPort]

/-- No service begins where no request is held, or where no RESPONSE place is freed (R165). -/
theorem serveIfFreed_idle (h : (∃ pl, src = .response pl) → IntakeEmpty s) : serveIfFreed src s = s := by
  cases src with
  | response pl => exact serveIfFreed_emptyIntake (h ⟨pl, rfl⟩) _
  | lockout | busy | status | level | output => rfl

theorem localFailure_intake (empty : IntakeEmpty s) (src : Source) :
    IntakeEmpty (settleDrained p (checkBusFault p (localFailure p src (failed p s)))) := by
  refine intakeEmpty_of_engine empty ?_
  rw [settleDrained_engine, checkBusFault_engine, localFailure_engine]
  exact State.setPort_engine _ _ _

/-- The port's record after a failure, whatever became of the frame, but for the count of the abandoned (R34, R40). -/
theorem recordFailure_port (out : (s.queue (queueToward p)).out = some r) :
    (recordFailure p (failed p s)).port p = { s.port p with
      attempt := none, run := (s.port p).run + 1, failedAttempts := (s.port p).failedAttempts + 1 } := by
  rw [recordFailure_failed out]
  split <;> simp [failed]

theorem localFailure_port (held : s.places.at src = some f) :
    (localFailure p src (failed p s)).port p =
      if f.attempts + 1 < 8 then { s.port p with
        attempt := none, run := (s.port p).run + 1, failedAttempts := (s.port p).failedAttempts + 1 }
      else abandoning (s.port p) := by
  rw [localFailure_failed held]
  split
  · rw [setPlaces_port]
    exact State.setPort_port _ _ _
  · rw [report_port, setPlaces_port, State.setPort_port]

theorem localFailure_run (held : s.places.at src = some f) :
    ((localFailure p src (failed p s)).port p).run = (s.port p).run + 1
      ∧ ((localFailure p src (failed p s)).port p).st = (s.port p).st := by
  rw [localFailure_port held]
  split <;> exact ⟨rfl, rfl⟩

theorem queueIndex_eq (q : QueueId) : queueIndex q = match q with | .bc => 0 | .cb => 1 := by cases q <;> rfl

/-- The index of a local place in TRANSMIT_ABANDONED, and 8 where there is none (R34). -/
def placeIndex : Source → Nat
  | .lockout => 2
  | .response .first => 3
  | .response .second => 4
  | .busy => 5
  | .status => 6
  | .level => 7
  | .output => 8

theorem index_eq (local_ : src ≠ .output) : src.index p = placeIndex src := by
  cases src with
  | response pl => cases pl <;> rfl
  | output => exact absurd rfl local_
  | lockout | busy | status | level => rfl

/-- Settles O20: the output stage's record and a local frame, by the attempt count. -/
theorem failuresCountAndAbandonAtEight : Obligations.FailuresCountAndAbandonAtEight := by
  unfold Obligations.FailuresCountAndAbandonAtEight
  intro s p a attempt up
  refine ⟨fun r output out => congrArg Host.Outcome.next ?_, fun f held empty => congrArg Host.Outcome.next ?_⟩
  · have stays : ¬(32 ≤ ((recordFailure p (failed p s)).port p).run
        ∧ ((recordFailure p (failed p s)).port p).st ≠ .busFault) := by
      rw [recordFailure_port out]
      exact fun h => absurd h.1 (Nat.not_le.mpr up)
    rw [endInFailure_output attempt output, checkBusFault_up stays, settleDrained_eq, recordFailure_failed out, queueIndex_eq]
    rfl
  · have stays : ¬(32 ≤ ((localFailure p a.source (failed p s)).port p).run
        ∧ ((localFailure p a.source (failed p s)).port p).st ≠ .busFault) := by
      rw [(localFailure_run held).1]
      exact fun h => absurd h.1 (Nat.not_le.mpr up)
    have local_ := ne_output_of_held held
    rw [endInFailure_local attempt local_, serveIfFreed_idle fun response => localFailure_intake (empty response) a.source,
      checkBusFault_up stays, settleDrained_eq, localFailure_failed held, index_eq local_]
    rfl

/-! ## The bus fault (R40, R41) -/

/-- A port's record that enters BUS_FAULT (R40). -/
def downed (r : PortRec) : PortRec :=
  { r with
    st := .busFault, recovery := some 1000, ret := r.st, quiescePending := decide (r.st ≠ .active)
    busFaults := r.busFaults + 1 }

/-- The entry into BUS_FAULT, of a port that is not left drained by it (R40, R42). -/
theorem settleDrained_checkBusFault (run : (s.port p).run = 32) (up : (s.port p).st ≠ .busFault) :
    settleDrained p (checkBusFault p s) =
      report .portBusFault (some (portIndex p)) (s.setPort p (downed (s.port p))) := by
  rw [checkBusFault_down ⟨Nat.le_of_eq run.symm, up⟩]
  refine settleDrained_not_quiescing _ ?_
  rw [report_port, State.setPort_port]
  nofun

theorem portIndex_eq (p : Port) : portIndex p = match p with | .chassis => 0 | .body => 1 := by cases p <;> rfl

theorem recover_eq (p : Port) (s : State) : recover p s = stopIfDrained p
    (s.setPort p { s.port p with st := (s.port p).ret, run := 0, recovery := none, quiescePending := false }) := by
  unfold recover
  exact settleDrained_eq p _

/-- Settles O21: the entry into BUS_FAULT after the frame's own failure, and the recovery. -/
theorem busFaultComesAndPasses : Obligations.BusFaultComesAndPasses := by
  unfold Obligations.BusFaultComesAndPasses
  refine ⟨fun s p a attempt run up => ⟨fun r output out => congrArg Host.Outcome.next ?_,
    fun f held empty => congrArg Host.Outcome.next ?_⟩,
    fun s p down expired => congrArg Host.Outcome.next ((if_pos ⟨down, expired⟩).trans (recover_eq p s))⟩
  · have port := recordFailure_port out
    rw [run] at port
    rw [endInFailure_output attempt output,
      settleDrained_checkBusFault (by rw [port]) (by rw [port]; exact up), port, recordFailure_failed out, portIndex_eq,
      queueIndex_eq]
    unfold failed downed
    by_cases few : r.attempts + 1 < 8
    · simp only [if_pos few, setQueue_setPort, setPort_setPort] <;> rfl
    · simp only [if_neg few, report_setPort, setQueue_setPort, setPort_setPort] <;> rfl
  · have local_ := ne_output_of_held held
    obtain ⟨reached, st⟩ := localFailure_run (p := p) held
    rw [run] at reached
    rw [endInFailure_local attempt local_, serveIfFreed_idle fun response => localFailure_intake (empty response) a.source,
      settleDrained_checkBusFault reached (by rw [st]; exact up), localFailure_port held, localFailure_failed held,
      portIndex_eq, index_eq local_]
    unfold failed downed abandoning
    rw [run]
    by_cases few : f.attempts + 1 < 8
    · simp only [if_pos few, setPlaces_setPort, setPort_setPort] <;> rfl
    · simp only [if_neg few, report_setPort, setPlaces_setPort, setPort_setPort] <;> rfl

end Sys2Proof.Proofs.AttemptEnds

/-! PROOF. The arrival of a frame that is not diverted: what is offered, extracted and notified, and the mode request it may carry
(R7, R13, R16 to R23, R61, R66, R81). -/

namespace Sys2Proof.Proofs.Arrivals

open Sys2Proof.Machine Sys2Proof.Safety Sys2Proof.Laws.Terms Sys2Proof.Laws.Sendable Sys2Proof.Proofs.Interlock
open Sys2Proof.Proofs.Accounts

variable {s : State} {p : Port} {f : Frame} {i : Fin 48} {x : Extractor} {eng : Int}

/-! ## The arrival (R4, R6, R7) -/

/-- A frame as a port delivers it, where it is one that the link carries (R4). -/
def delivered (f : Frame) : Frame := { f with length := min f.length 8 }

/-- A frame that is received and not diverted is counted and classified (R4, R6, R48). -/
theorem arrival_classified (wf : f.wellFormed = true) (plain : s.diverts p f = false) (receives : Receives s p) :
    exec (.frameArrival p f) s = .next (classify p (delivered f) (counted p s)) := by
  have reported : (s.port p).reports p false = true := by
    unfold PortRec.reports
    rcases receives with st | st <;> rw [st]
  refine congrArg Host.Outcome.next ?_
  unfold arrive
  rw [diverts_deliver, plain]
  dsimp only
  rw [if_pos reported, (deliver_wellFormed wf).1]
  rfl

/-- A record that is not latest-only supersedes nothing (R27). -/
theorem offered_plain {q : QueueId} {r : FrameRecord} (h : r.latestOnly = false) : offered q r s = takenBy q r s := by
  unfold offered
  refine if_neg ?_
  rintro ⟨-, old, -, latest, -⟩
  exact Bool.noConfusion (h.symm.trans latest)

theorem classify_unloaded (app : s.ctl.app = .unloaded) : classify p f s =
    takenBy (queueToward (otherPort p)) ⟨f.ident, f.format, f.kind, f.length, f.data, .none, false, none, none, 0⟩ s := by
  unfold classify
  rw [app]
  exact (offer_eq _ _ _).trans (offered_plain rfl)

theorem classify_default {cls : Nat} (cls_ : modeClass s.ctl.app = some cls)
    (unmatched : s.tables.active.search p cls f.format f.kind f.ident = none) : classify p f s =
    match s.tables.active.header.defaultFor p with
    | .pass => takenBy (queueToward (otherPort p))
        ⟨f.ident, f.format, f.kind, f.length, f.data, .pass, false, none, none, 0⟩ s
    | .block => s := by
  unfold classify
  rw [cls_]
  dsimp only
  rw [unmatched]
  dsimp only
  cases s.tables.active.header.defaultFor p with
  | pass => exact (offer_eq _ _ _).trans (offered_plain rfl)
  | block => rfl

@[simp] theorem counted_ctl (p : Port) (s : State) : (counted p s).ctl = s.ctl := State.setPort_ctl _ _ _

@[simp] theorem counted_tables (p : Port) (s : State) : (counted p s).tables = s.tables := State.setPort_tables _ _ _

@[simp] theorem counted_slots (p : Port) (s : State) : (counted p s).slots = s.slots := State.setPort_slots _ _ _

@[simp] theorem counted_clock (p : Port) (s : State) : (counted p s).clock = s.clock := State.setPort_clock _ _ _

/-- Settles O8: in UNLOADED, and by the port's default action. -/
theorem unloadedFramesPassAndUnmatchedTakeTheDefault : Obligations.UnloadedFramesPassAndUnmatchedTakeTheDefault := by
  unfold Obligations.UnloadedFramesPassAndUnmatchedTakeTheDefault
  refine ⟨fun s p f wf app plain receives => ?_, fun s p f cls wf plain receives cls_ unmatched => ?_⟩
  · rw [arrival_classified wf plain receives, classify_unloaded (by rw [counted_ctl, app])]
    rfl
  · rw [arrival_classified wf plain receives, classify_default (cls := cls) (by rw [counted_ctl, cls_])
      (by rw [counted_tables]; exact unmatched), counted_tables]
    cases p with
    | chassis =>
      change Host.Outcome.next (match s.tables.active.header.chassisDefault with | .pass => _ | .block => _) = _
      cases s.tables.active.header.chassisDefault <;> cases s.tables.active.header.bodyDefault <;> rfl
    | body =>
      change Host.Outcome.next (match s.tables.active.header.bodyDefault with | .pass => _ | .block => _) = _
      cases s.tables.active.header.chassisDefault <;> cases s.tables.active.header.bodyDefault <;> rfl

/-! ## A frame that wins an entry (R11, R16 to R22) -/

theorem modeClass_iff (app : AppState) (cls : Nat) : modeClass app = some cls ↔ InClass app cls := by
  cases app <;> simp [modeClass, InClass, eq_comm]

/-- The extractors of a list, one after another (R20). -/
theorem runExtractors_eq (xs : List Extractor) (f : Frame) (s : State) :
    runExtractors xs f s = xs.foldl (extracted f.length f.data) s := by
  unfold runExtractors
  congr 1
  funext t x
  exact updateEvent_eq x f t

theorem forwards_eq (p : Port) (e : FctEntry) (f : Frame) (s : State) :
    (if e.forwards (delivered f).length then offer (queueFrom p) (e.recordOf (delivered f)) s else s)
      = forwardedBy p e f s := by
  rw [offer_eq]
  unfold forwardedBy FctEntry.forwards FctEntry.recordOf
  cases e.action with
  | pass | tap | block | sink => rfl
  | clamp | rangeGuard =>
    dsimp only
    by_cases fits : WithinData e.edit (min f.length 8)
    · rw [if_pos fits, if_pos (by exact (fits_iff _ _).mpr fits)]
      rfl
    · rw [if_neg fits, if_neg (by exact mt (fits_iff _ _).mp fits)]

/-- The state with a hit of an entry counted, as a frame arrives (R18, R48). -/
def hit (p : Port) (i : Fin 48) (s : State) : State :=
  { counted p s with
    tables := { s.tables with hits := s.tables.hits.set i (min 65535 (s.tables.hits[i] + 1)) } }

theorem countHit_counted (p : Port) (i : Fin 48) (s : State) : countHit i (counted p s) = hit p i s := by
  unfold countHit hit
  rw [counted_tables]

theorem classify_wins {cls : Nat} (cls_ : modeClass s.ctl.app = some cls)
    (wins : s.tables.active.search p cls f.format f.kind f.ident = some i) :
    classify p (delivered f) (counted p s) = forwardedBy p s.tables.active.fct[i] f
      (if s.tables.active.fct[i].action = .block then hit p i s
       else s.tables.active.fct[i].extractors.foldl (extracted (min f.length 8) f.data) (hit p i s)) := by
  unfold classify
  rw [counted_ctl, cls_, counted_tables]
  dsimp only
  rw [show s.tables.active.search p cls (delivered f).format (delivered f).kind (delivered f).ident = some i from wins]
  dsimp only
  rw [forwards_eq, countHit_counted, runExtractors_eq]
  unfold Action.extracts
  cases s.tables.active.fct[i].action <;> rfl

/-- A frame that wins an entry is counted, extracted and forwarded (R16, R18, R20, R22). -/
theorem arrival_wins (h : Wins s p f i) : exec (.frameArrival p f) s = .next (forwardedBy p s.tables.active.fct[i] f
    (if s.tables.active.fct[i].action = .block then hit p i s
     else s.tables.active.fct[i].extractors.foldl (extracted (min f.length 8) f.data) (hit p i s))) := by
  obtain ⟨wf, plain, receives, cls, inClass, wins⟩ := h
  rw [arrival_classified wf plain receives, classify_wins ((modeClass_iff _ _).mpr inClass) wins]

/-! ## A good value into a SINK (R16, R61, R66) -/

theorem sinkUpdate_wins (h : SinkUpdate s p f i x eng) : Wins s p f i := by
  obtain ⟨cls, cls_, wins⟩ := h.wins
  exact ⟨h.frame, h.plain, h.receives, cls, (modeClass_iff _ _).mp cls_, wins⟩

/-- The value that a good update hands over: none while the slot stays LOST (R59, R66). -/
def handedOver (d : SlotDef) (clock : Clock) (eng : Int) (y : Slot) : Option Int :=
  if (goodSlot d clock eng y).status = .lost then none else some eng

/-- A good value into a SINK updates its slot and is notified (R16, R61, R66). -/
theorem arrival_sinks (h : SinkUpdate s p f i x eng) : exec (.frameArrival p f) s = .next
    (notified x.slot (handedOver s.tables.active.sdt[x.slot] s.clock eng s.slots[x.slot]) (sunk p i x eng s)) := by
  have good : (if WithinData x.field (min f.length 8) then
      s.tables.active.sdt[x.slot].grade (.raw (readField x.field f.data) x.field.width) else none) = some eng := by
    rw [if_pos ((fits_iff _ _).mp h.fits), h.good]
  have update : extracted (min f.length 8) f.data (hit p i s) x =
      notified x.slot (handedOver s.tables.active.sdt[x.slot] s.clock eng s.slots[x.slot]) (sunk p i x eng s) := by
    unfold extracted
    have tables : (hit p i s).tables.active = s.tables.active := rfl
    have slots : (hit p i s).slots = s.slots := counted_slots p s
    have clock : (hit p i s).clock = s.clock := counted_clock p s
    dsimp only
    rw [tables, good, slots, clock]
    cases p <;> rfl
  rw [arrival_wins (sinkUpdate_wins h), h.action, h.extractor, if_neg (by decide), List.foldl_cons, List.foldl_nil, update]
  unfold forwardedBy
  rw [h.action]

/-- Settles O10: the SINK frame, and a frame that wins any entry. -/
theorem matchedFramesExtractAndForward : Obligations.MatchedFramesExtractAndForward := by
  unfold Obligations.MatchedFramesExtractAndForward
  refine ⟨fun s p f i x eng sink unnotified => ?_, fun s p f i wins => arrival_wins wins⟩
  rw [arrival_sinks sink, notified_unbound _ (by exact unnotified)]

/-! ## Mode requests (R61, R66, R81) -/

theorem requestOf_outside (h : eng < 0 ∨ 2 < eng) : requestOf eng = none := by
  unfold requestOf
  rw [if_neg (by omega), if_neg (by omega), if_neg (by omega)]

theorem takeRequestValue_outside (h : eng < 0 ∨ 2 < eng) : takeRequestValue eng s = s := by
  unfold takeRequestValue
  rw [requestOf_outside h]
  split <;> rfl

/-- A request value in a state that takes requests (R81). -/
theorem takeRequestValue_of {r : Request} (loaded : s.ctl.app ≠ .unloaded) (value : requestOf eng = some r) :
    takeRequestValue eng s =
      if s.ctl.seeded = false then { s with ctl := { s.ctl with seeded := true, lastReq := some r } }
      else if s.ctl.lastReq = some r then s
      else requestEvent r { s with ctl := { s.ctl with lastReq := some r } } := by
  unfold takeRequestValue
  rw [if_neg loaded, value]
  rfl

/-- A good update hands its value over unless a recovery of a LOST slot goes on (R61, R62). -/
theorem handedOver_eq (d : SlotDef) (clock : Clock) (eng : Int) (y : Slot) :
    handedOver d clock eng y = if y.status = .lost ∧ y.recovery < 7 then none else some eng := by
  unfold handedOver goodSlot
  by_cases lost : y.status = .lost
  · by_cases few : y.recovery < 7
    · simp [lost, few]
    · simp [lost, few]
  · by_cases low : y.hc - 1 < 64
    · simp [lost, low]
    · simp [lost, low]

/-- Settles O11: the notification of a SINK slot bound to MODE_REQUEST alone, by the value. -/
theorem modeRequestsSeedThenAct : Obligations.ModeRequestsSeedThenAct := by
  unfold Obligations.ModeRequestsSeedThenAct
  refine ⟨fun s p f i x eng sink request speed engine range => ?_, fun s => ⟨rfl, fun app v => ?_⟩⟩
  · have bound : exec (.frameArrival p f) s = .next (notify .modeRequest
        (handedOver s.tables.active.sdt[x.slot] s.clock eng s.slots[x.slot]) (sunk p i x eng s)) := by
      rw [arrival_sinks sink]
      refine congrArg Host.Outcome.next (notified_bound _ (by decide) fun k notifies => ?_)
      cases k with
      | intakePressure => exact absurd rfl notifies
      | modeRequest => exact iff_of_true request rfl
      | roadSpeed => exact iff_of_false speed (by decide)
      | engineSpeed => exact iff_of_false engine (by decide)
      | currentRange => exact iff_of_false range (by decide)
    have ctl : (sunk p i x eng s).ctl = s.ctl := counted_ctl p s
    have loaded : (sunk p i x eng s).ctl.app ≠ .unloaded := by
      obtain ⟨cls, cls_, -⟩ := sink.wins
      rw [ctl]
      intro app
      rw [app] at cls_
      cases cls_
    rw [bound, handedOver_eq]
    refine ⟨fun lost few => ?_, fun outside => congrArg Host.Outcome.next ?_, fun usable r value => ?_⟩
    · rw [if_pos ⟨lost, few⟩]
      rfl
    · split
      · rfl
      · exact takeRequestValue_outside outside
    · have takes := takeRequestValue_of (eng := eng) (r := r) loaded (by rw [value]; cases r <;> rfl)
      have hands : ¬(s.slots[x.slot].status = .lost ∧ s.slots[x.slot].recovery < 7) := by
        rintro ⟨lost, few⟩
        rcases usable with h | h
        · exact h lost
        · omega
      rw [if_neg hands]
      change (_ → Host.Outcome.next (takeRequestValue eng (sunk p i x eng s)) = _)
        ∧ (_ → _ → Host.Outcome.next (takeRequestValue eng (sunk p i x eng s)) = _)
        ∧ (_ → _ → Host.Outcome.next (takeRequestValue eng (sunk p i x eng s)) = _)
      rw [takes, ctl]
      exact ⟨fun first => by rw [if_pos first], fun seeded same => by rw [if_neg (by simp [seeded]), if_pos same],
        fun seeded new => by rw [if_neg (by simp [seeded]), if_neg new]⟩
  · cases v with
    | none => rfl
    | some v => exact if_pos app

end Sys2Proof.Proofs.Arrivals

/-! PROOF. The intake of management requests: the buffer that is filled, the BUSY answer, and which of two requests is served first
(R163 to R165). -/

namespace Sys2Proof.Proofs.Intake

open Sys2Proof.Machine Sys2Proof.Safety Sys2Proof.Laws.Sendable Sys2Proof.Proofs.Arrivals

variable {s : State} {f : Frame}

/-! ## Taking a request in (R163, R164) -/

/-- The Body Port has counted a management arrival (R40, R48). -/
def requestCounted (s : State) : State :=
  { s with body := { s.body with
    run := 0, arrivals := s.body.arrivals + 1, mgmtArrivals := s.body.mgmtArrivals + 1 } }

/-- A request frame that the Body Port receives is counted and taken into the intake (R5, R43). -/
theorem arrival_diverted (wf : f.wellFormed = true) (extended : f.format = .extended)
    (ident : f.ident = 0x0C5AA100 + s.straps.node.setWidth 29) (up : s.body.st ≠ .busFault) :
    exec (.frameArrival .body f) s = .next (intake (delivered f) (requestCounted s)) := by
  have diverted : s.diverts .body (delivered f) = true := diverts_request s _ extended ident
  have reported : (s.port .body).reports .body true = true := reports_request up
  refine congrArg Host.Outcome.next ?_
  rw [(deliver_wellFormed wf).1]
  unfold arrive
  dsimp only
  rw [show s.diverts .body { f with length := min f.length 8 } = true from diverted, if_pos reported, if_pos rfl]
  rfl

theorem fillTarget_x {g : Engine} (empty : g.bufX = none) (turn : g.lastFilled = .y ∨ g.bufY.isSome) :
    g.fillTarget = some .x := by
  unfold Engine.fillTarget
  rcases turn with last | full
  · simp [last, empty]
  · obtain ⟨r, held⟩ := Option.isSome_iff_exists.mp full
    cases g.lastFilled <;> simp [empty, held]

theorem fillTarget_y {g : Engine} (empty : g.bufY = none) (turn : g.lastFilled = .x ∨ g.bufX.isSome) :
    g.fillTarget = some .y := by
  unfold Engine.fillTarget
  rcases turn with last | full
  · simp [last, empty]
  · obtain ⟨r, held⟩ := Option.isSome_iff_exists.mp full
    cases g.lastFilled <;> simp [empty, held]

theorem fillTarget_full {g : Engine} (x : g.bufX.isSome) (y : g.bufY.isSome) : g.fillTarget = none := by
  obtain ⟨f, heldX⟩ := Option.isSome_iff_exists.mp x
  obtain ⟨h, heldY⟩ := Option.isSome_iff_exists.mp y
  unfold Engine.fillTarget
  cases g.lastFilled <;> simp [heldX, heldY]

/-- While an ACTIVATE is in service no service begins (R165). -/
theorem serveWaiting_inService (h : s.engine.inService.isSome) : serveWaiting s = s := by
  obtain ⟨v, serving⟩ := Option.isSome_iff_exists.mp h
  have may : s.mayServe = false := by simp [State.mayServe, serving]
  have next : serveNext s = s := by
    unfold serveNext
    split
    · rw [may]
      rfl
    · rfl
  unfold serveWaiting
  rw [next, next]

theorem intake_held {b : Buffer} (target : s.engine.fillTarget = some b) (h : s.engine.inService.isSome) (f : Frame) :
    intake f s = { s with engine := { s.engine.setBuf b (some f) with lastFilled := b } } := by
  unfold intake
  rw [target]
  exact serveWaiting_inService (by cases b <;> exact h)

/-- The head byte of a BUSY answer: the kind code found in the frame and the status (R164, R181). -/
theorem busy_head (x : Byte) : BitVec.ofNat 8 (x.toNat % 16 + 16 * 1 + 128 * 0) = (x &&& 0x0F) ||| 0x10 := by
  revert x
  decide

theorem busyFrame_eq (s : State) (f : Frame) : s.responseFrame f (.bare .busy) =
    ⟨.extended, .data, 0x0C5AA180 + s.straps.node.setWidth 29, 8,
      [(f.data.getD 0 0 &&& 0x0F) ||| 0x10, f.data.getD 1 0, 0, 0, 0, 0, 0, 0]⟩ := by
  rw [← busy_head]
  rfl

/-- A request that finds both buffers full (R164). -/
theorem intake_full (x : s.engine.bufX.isSome) (y : s.engine.bufY.isSome) (f : Frame) : intake f s =
    if s.places.busy.isSome then { s with engine := { s.engine with busyDropped := s.engine.busyDropped + 1 } }
    else { s with places := { s.places with
      busy := some ⟨⟨.extended, .data, 0x0C5AA180 + s.straps.node.setWidth 29, 8,
        [(f.data.getD 0 0 &&& 0x0F) ||| 0x10, f.data.getD 1 0, 0, 0, 0, 0, 0, 0]⟩, 0, false⟩ } } := by
  unfold intake
  rw [fillTarget_full x y, ← busyFrame_eq]
  rfl

/-! ## The order of service (R165) -/

theorem freeResp_eq {pl : Places} (h : pl.resp1 = none ∨ pl.resp2 = none) :
    pl.freeResp = some (if pl.resp1 = none then .first else .second) := by
  unfold Places.freeResp
  cases first : pl.resp1 with
  | none => rfl
  | some x =>
    have second : pl.resp2 = none := h.resolve_left (by simp [first])
    simp [second]

/-- The next service takes the older request and the first free RESPONSE place (R165). -/
theorem serveNext_oldest {b : Buffer} (oldest : s.engine.oldest = some (b, f)) (idle : s.engine.inService = none)
    (running : s.engine.restart = none) (loaded : s.tables.origin ≠ .loading)
    (free : s.places.resp1 = none ∨ s.places.resp2 = none) :
    serveNext s = serveRequest f (if s.places.resp1 = none then .first else .second)
      { s with engine := s.engine.setBuf b none } := by
  have may : s.mayServe = true := by simp [State.mayServe, idle, running, loaded]
  unfold serveNext
  rw [oldest, freeResp_eq free]
  exact if_pos may

/-- Settles O12: which buffer a request enters, and which request is served first. -/
theorem intakeHoldsTwoAndAnswersBusy : Obligations.IntakeHoldsTwoAndAnswersBusy := by
  unfold Obligations.IntakeHoldsTwoAndAnswersBusy
  refine ⟨fun s f wf extended ident up => ⟨fun busy empty turn => ?_, fun busy empty turn => ?_, fun x y => ?_⟩,
    fun s f g idle running loaded free => ⟨fun x y last => ?_, fun x y last => ?_⟩⟩
  · rw [arrival_diverted wf extended ident up, intake_held (s := requestCounted s) (fillTarget_x empty turn) busy]
    rfl
  · rw [arrival_diverted wf extended ident up, intake_held (s := requestCounted s) (fillTarget_y empty turn) busy]
    rfl
  · rw [arrival_diverted wf extended ident up, intake_full (s := requestCounted s) x y]
    rfl
  · have oldest : s.engine.oldest = some (.x, f) := by simp [Engine.oldest, x, y, last]
    unfold serveWaiting
    rw [serveNext_oldest oldest idle running loaded free]
    rfl
  · have oldest : s.engine.oldest = some (.y, f) := by simp [Engine.oldest, x, y, last]
    unfold serveWaiting
    rw [serveNext_oldest oldest idle running loaded free]
    rfl

end Sys2Proof.Proofs.Intake

/-! PROOF. Validation: its first failure is the first of the failures of R155 and R127, in their order (R123, R127, R154, R155). -/

namespace Sys2Proof.Proofs.Validation

open Sys2Proof.Machine Sys2Proof.Safety Sys2Proof.Laws.Terms

/-! ## The first failure of a list of tests (R155) -/

/-- A failed check as its number, table and index. -/
def seen (f : Failure) : Nat × Nat × Nat := (f.check.number, f.table, f.index)

/-- A test finds the first of a list of failures. -/
def Finds (o : Option Failure) (l : List (Nat × Nat × Nat)) : Prop := o.map seen = l.head?

namespace Finds

variable {o : Option Failure} {l m : List (Option Failure)} {a b : List (Nat × Nat × Nat)}

theorem test {bad : Bool} {p : Prop} [Decidable p] (h : bad = true ↔ p) (c : Check) (table index : Nat) :
    Finds (failWhen bad c table index) (failIf p c.number table index) := by
  unfold Finds failWhen failIf
  by_cases fails : p
  · rw [if_pos (h.mpr fails), if_pos fails]
    rfl
  · rw [if_neg (mt h.mp fails), if_neg fails]
    rfl

theorem nil : Finds (firstFailure []) [] := rfl

theorem cons (first : Finds o a) (rest : Finds (firstFailure l) b) : Finds (firstFailure (o :: l)) (a ++ b) := by
  unfold Finds at *
  rw [List.head?_append, ← first, ← rest]
  cases o <;> rfl

theorem single (h : Finds o a) : Finds (firstFailure [o]) a := by
  have one := cons h nil
  rwa [List.append_nil] at one

theorem append (first : Finds (firstFailure l) a) (second : Finds (firstFailure m) b) :
    Finds (firstFailure (l ++ m)) (a ++ b) := by
  induction l generalizing a with
  | nil =>
    have empty : a = [] := List.head?_eq_none_iff.mp first.symm
    rw [empty]
    exact second
  | cons o l ih =>
    cases o with
    | none => exact ih first
    | some f =>
      unfold Finds at *
      rw [List.head?_append, ← first]
      rfl

theorem flatMap {α : Type} {xs : List α} {g : α → Option Failure} {k : α → List (Nat × Nat × Nat)}
    (h : ∀ x ∈ xs, Finds (g x) (k x)) : Finds (firstFailure (xs.map g)) (xs.flatMap k) := by
  induction xs with
  | nil => exact nil
  | cons x xs ih =>
    rw [List.map_cons, List.flatMap_cons]
    exact cons (h x List.mem_cons_self) (ih fun y mem => h y (List.mem_cons_of_mem x mem))

end Finds

/-! ## Entries and slots (R155 steps 1 and 2) -/

theorem geometryOk_iff (f : Field) : f.geometryOk = true ↔ GoodGeometry f := by
  unfold Field.geometryOk GoodGeometry
  cases order : f.order <;> simp

theorem badGeometry_iff (f : Field) : (!f.geometryOk) = true ↔ ¬GoodGeometry f := by
  rw [← geometryOk_iff, Bool.not_eq_true', Bool.not_eq_true]

/-- The bits 11..28 that no STANDARD identifier has (R10). -/
theorem highBits : ∀ k < 29, (0x1FFFF800 : BitVec 29).getLsbD k = decide (11 ≤ k) := by decide

theorem unreachable_iff (e : FctEntry) : e.unreachable = true ↔ e.format = .standard
    ∧ ∃ k ∈ List.range 29, 11 ≤ k ∧ e.base.getLsbD k = true ∧ e.mask.getLsbD k = false := by
  have bit (k : Nat) (below : k < 29) : (e.base &&& ~~~e.mask &&& 0x1FFFF800).getLsbD k
      = (e.base.getLsbD k && !e.mask.getLsbD k && decide (11 ≤ k)) := by
    rw [BitVec.getLsbD_and, BitVec.getLsbD_and, BitVec.getLsbD_not, highBits k below]
    simp [below]
  have zero : e.base &&& ~~~e.mask &&& 0x1FFFF800 = 0
      ↔ ¬∃ k ∈ List.range 29, 11 ≤ k ∧ e.base.getLsbD k = true ∧ e.mask.getLsbD k = false := by
    constructor
    · rintro none_ ⟨k, mem, high, base, mask⟩
      have at_ := bit k (List.mem_range.mp mem)
      rw [none_] at at_
      simp [base, mask, high] at at_
    · intro none_
      apply BitVec.eq_of_getLsbD_eq
      intro k below
      rw [bit k below]
      by_contra set
      have set' : e.base.getLsbD k = true ∧ e.mask.getLsbD k = false ∧ 11 ≤ k := by simpa [and_assoc] using set
      obtain ⟨base, mask, high⟩ := set'
      exact none_ ⟨k, List.mem_range.mpr below, high, base, mask⟩
  unfold FctEntry.unreachable
  rw [Bool.and_eq_true, beq_iff_eq, Bool.not_eq_true', beq_eq_false_iff_ne, ne_eq, zero, not_not]

theorem badEdit_iff (e : FctEntry) : e.badEdit = true ↔ (e.action = .clamp ∧ ¬GoodGeometry e.edit)
    ∨ (e.action = .rangeGuard ∧ ¬(GoodGeometry e.edit ∧ e.edit.width = 8)) := by
  unfold FctEntry.badEdit
  cases e.action with
  | clamp => simp [← geometryOk_iff]
  | rangeGuard =>
    simp only [Bool.or_eq_true, badGeometry_iff, bne_iff_ne, ne_eq, not_and_or, reduceCtorEq, false_and, true_and, false_or]
  | pass | block | tap | sink => simp

theorem badScale_iff (e : FctEntry) :
    e.badScale = true ↔ e.action = .clamp ∧ ¬e.fullScale < 2 ^ e.edit.width - 1 := by
  unfold FctEntry.badScale
  rw [Bool.and_eq_true, beq_iff_eq, decide_eq_true_eq, Nat.not_lt]

theorem badExtractor_iff (e : FctEntry) : (e.extractors.any fun x => !x.field.geometryOk) = true
    ↔ ∃ x ∈ [e.ext0, e.ext1].take e.extCount, ¬GoodGeometry x.field := by
  simp only [List.any_eq_true, badGeometry_iff, FctEntry.extractors]

theorem checkEntry_finds (e : FctEntry) (i : Nat) : Finds (checkEntry e i) (entryFailures e i) := by
  unfold checkEntry entryFailures
  rw [List.append_assoc, List.append_assoc]
  exact .cons (.test (unreachable_iff e) _ _ _) (.cons (.test (badEdit_iff e) _ _ _)
    (.cons (.test (badScale_iff e) _ _ _) (.single (.test (badExtractor_iff e) _ _ _))))

/-! ## Roles, parameters and template (R155 steps 3 to 5) -/

/-- A bound role whose slot an earlier role names (R155 step 3). -/
theorem takenBefore_iff (l : List (Option (Fin 32))) (i : Nat) (here : Option (Fin 32)) :
    (here.isSome && (l.take i).contains here) = true ↔ here.isSome ∧ ∃ j < i, l.getD j none = here := by
  rw [Bool.and_eq_true, List.contains_iff_mem, List.mem_take_iff_getElem]
  refine and_congr_right fun bound => ⟨?_, ?_⟩
  · rintro ⟨j, inside, at_⟩
    refine ⟨j, by omega, ?_⟩
    rw [List.getD_eq_getElem?_getD, List.getElem?_eq_getElem (by omega), at_]
    rfl
  · rintro ⟨j, before, at_⟩
    have inside : j < l.length := by
      by_contra beyond
      rw [List.getD_eq_getElem?_getD, List.getElem?_eq_none (by omega)] at at_
      rw [← at_] at bound
      cases bound
    refine ⟨j, by omega, ?_⟩
    rw [List.getD_eq_getElem?_getD, List.getElem?_eq_getElem inside] at at_
    exact at_

theorem checkRole_finds (m : RoleMap) (i : Nat) : Finds (checkRole m i)
    (failIf (i < 4 ∧ m.list.getD i none = none) 5 3 i
      ++ failIf ((m.list.getD i none).isSome ∧ ∃ j < i, m.list.getD j none = m.list.getD i none) 4 3 i) := by
  unfold checkRole
  refine .cons (.test ?_ .roleUnbound 3 i) (.single (.test (takenBefore_iff m.list i _) .badSlot 3 i))
  rw [Bool.and_eq_true, Option.isNone_iff_eq_none, decide_eq_true_eq, and_comm]

theorem checkParams_finds (p : Params) : Finds (checkParams p)
    (failIf (p.pumpRange = p.neutral) 6 4 0 ++ failIf (p.neutral ∉ p.rollCodes.toList.take p.rollSize) 7 4 0) := by
  unfold checkParams
  refine .cons (.test beq_iff_eq .rangeCodes 4 0) (.single (.test ?_ .rollSet 4 0))
  rw [Bool.not_eq_true', ← Bool.not_eq_true, List.contains_iff_mem]
  rfl

theorem checkTemplate_finds (t : Template) : Finds (checkTemplate t) (templateFailures t) := by
  unfold checkTemplate templateFailures
  refine .test ?_ .templateGeometry 5 0
  have shared : t.lockField.bits.any t.rangeField.bits.contains = true
      ↔ ¬∀ n ∈ t.lockField.bits, n ∉ t.rangeField.bits := by
    rw [List.any_eq_true]
    simp only [List.contains_iff_mem]
    push Not
    rfl
  simp only [Bool.or_eq_true, geometryOk_iff, Bool.not_eq_true', ← Bool.not_eq_true, fits_iff, shared, not_and_or, or_assoc]
  rfl

/-! ## Compartments (R127, R155 step 6) -/

theorem repeats_iff (l : List (Fin 32)) : repeats l = true ↔ ¬l.Nodup := by
  induction l with
  | nil => simp [repeats]
  | cons x l ih =>
    unfold repeats
    rw [Bool.or_eq_true, List.contains_iff_mem, ih, List.nodup_cons, not_and_or, not_not]

/-- The level of a strap point by its place in a list, 0 beyond it. -/
def levelAt (pts : List StrapPoint) (i : Nat) : Nat := (pts.getD i ⟨0, 0⟩).h

/-- The volume of a strap point by its place in a list, 0 beyond it. -/
def volumeAt (pts : List StrapPoint) (i : Nat) : Nat := (pts.getD i ⟨0, 0⟩).v

/-- The point does not rise above the one before it, or its volume falls (R127 check 3). -/
def disordered (pts : List StrapPoint) (i : Nat) : Bool :=
  1 ≤ i ∧ (levelAt pts i ≤ levelAt pts (i - 1) ∨ volumeAt pts i < volumeAt pts (i - 1))

theorem disordered_tail (a b : StrapPoint) (rest : List StrapPoint) (i : Nat) (first : ¬(b.h ≤ a.h ∨ b.v < a.v)) :
    disordered (a :: b :: rest) (i + 1) = disordered (b :: rest) i := by
  cases i with
  | zero =>
    rw [Bool.eq_iff_iff]
    simpa [disordered, levelAt, volumeAt] using first
  | succ i => simp [disordered, levelAt, volumeAt]

theorem strapDisorder_eq (pts : List StrapPoint) (i : Nat) :
    strapDisorder pts (i + 1) = ((List.range pts.length).find? (disordered pts)).map (i + ·) := by
  induction pts generalizing i with
  | nil => rfl
  | cons a pts ih =>
    have start (l : List StrapPoint) : ¬disordered l 0 = true := by simp [disordered]
    cases pts with
    | nil => simp [strapDisorder, List.range_succ_eq_map, disordered]
    | cons b rest =>
      unfold strapDisorder
      rw [List.length_cons, List.range_succ_eq_map, List.find?_cons_of_neg (start _), List.find?_map]
      by_cases bad : b.h ≤ a.h ∨ b.v < a.v
      · have here : (disordered (a :: b :: rest) ∘ Nat.succ) 0 = true := by
          simpa [disordered, levelAt, volumeAt] using bad
        rw [if_pos bad, List.length_cons, List.range_succ_eq_map, List.find?_cons_of_pos here]
        rfl
      · have tail : (List.range (b :: rest).length).find? (disordered (a :: b :: rest) ∘ Nat.succ)
            = (List.range (b :: rest).length).find? (disordered (b :: rest)) :=
          List.find?_congr fun k _ => disordered_tail a b rest k bad
        rw [if_neg bad, ih (i + 1), tail, Option.map_map]
        congr 1
        funext k
        simp only [Function.comp_apply]
        omega

theorem lastPoint_eq (pts : List StrapPoint) : pts.getLast?.getD ⟨0, 0⟩ = pts.getD (pts.length - 1) ⟨0, 0⟩ := by
  rw [List.getLast?_eq_getElem?, List.getD_eq_getElem?_getD]

theorem checkStrapOrder_finds (height : Nat) (pts : List StrapPoint) (c : Nat) : Finds (checkStrapOrder height pts c)
    (((List.range pts.length).filter (disordered pts)).map (fun i => (8, 7, c * 16 + i))
      ++ failIf (height < levelAt pts (pts.length - 1)) 8 7 (c * 16 + pts.length - 1)) := by
  have points := strapDisorder_eq pts 0
  simp only [Nat.zero_add, Option.map_id'] at points
  unfold checkStrapOrder
  rw [points, ← List.head?_filter]
  cases bad : (List.range pts.length).filter (disordered pts) with
  | nil =>
    refine .test ?_ .strapOrder 7 _
    rw [decide_eq_true_eq, lastPoint_eq]
    rfl
  | cons i rest => rfl

theorem checkComp_finds (b : Bank) (c : Fin 4) : Finds (checkComp b c) (compFailures b c) := by
  unfold checkComp compFailures
  dsimp only
  by_cases enabled : b.comps[c].enabled = true
  · rw [if_pos enabled, if_pos enabled, List.append_assoc, List.append_assoc, List.append_assoc]
    refine .cons (.test (repeats_iff _) .senders 6 c.val) (.cons (.test decide_eq_true_iff .thresholds 6 c.val) ?_)
    rw [← List.append_assoc]
    refine .cons (checkStrapOrder_finds _ (b.strapList c) c.val) (.single (.test ?_ .strapEmpty 7 _))
    rw [beq_iff_eq, lastVolume, lastPoint_eq]
    rfl
  · rw [if_neg enabled, if_neg enabled]
    rfl

/-! ## A bank (R155) -/

theorem validate_finds (b : Bank) : Finds (validate b) (failures b) := by
  unfold validate failures
  rw [List.append_assoc _ (failIf (b.params.pumpRange = b.params.neutral) 6 4 0), List.append_assoc _ _ (templateFailures _)]
  exact .append (.append (.append (.append (.flatMap fun i _ => checkEntry_finds b.fct[i] i.val)
      (.flatMap fun i _ => .test decide_eq_true_iff .thresholds 2 i.val))
      (.flatMap fun i _ => checkRole_finds b.roles i))
    (.cons (checkParams_finds b.params) (.single (checkTemplate_finds b.template))))
    (.flatMap fun c _ => checkComp_finds b c)

/-- What the first failure of a bank says of its validation (R155, R157). -/
theorem validate_fails {b : Bank} {check table index : Nat} {rest : List (Nat × Nat × Nat)}
    (h : failures b = (check, table, index) :: rest) :
    ∃ f, validate b = some f ∧ f.check.number = check ∧ f.table = table ∧ f.index = index := by
  have finds := validate_finds b
  unfold Finds at finds
  rw [h] at finds
  cases first : validate b with
  | none =>
    rw [first] at finds
    cases finds
  | some f =>
    rw [first] at finds
    cases finds
    exact ⟨f, rfl, rfl, rfl, rfl⟩

theorem validate_passes {b : Bank} (h : failures b = []) : validate b = none := by
  have finds := validate_finds b
  unfold Finds at finds
  rw [h] at finds
  exact Option.map_eq_none_iff.mp finds

end Sys2Proof.Proofs.Validation

/-! PROOF. The completions of a validation, a store and a power-up load (R154, R155, R157, R159, R160, R168). -/

namespace Sys2Proof.Proofs.Completions

open Sys2Proof.Machine Sys2Proof.Safety Sys2Proof.Proofs.Answers Sys2Proof.Proofs.BankTaken Sys2Proof.Proofs.Validation

variable {s : State} {v : Service} {tag flag : Byte}

/-- The response to an ACTIVATE in service (R166, R181). -/
theorem responseBytes_activate (request : v.request.data = [7, tag, flag]) (r : Reply) :
    responseBytes v.request r = BitVec.ofNat 8 (7 + 16 * r.status.code + 128 * bit r.clamped) :: tag :: padBytes 6 r.result := by
  have kind : kindCode v.request = 7 := by
    unfold kindCode
    rw [request]
    rfl
  have tag_ : requestTag v.request = tag := by
    unfold requestTag
    rw [request]
    rfl
  unfold responseBytes
  rw [kind, tag_]

/-- An ACTIVATE in service is answered and leaves service (R165, R168). -/
theorem finishService_activate (request : v.request.data = [7, tag, flag]) (r : Reply) (s : State) :
    finishService v r s = serveWaiting (answeredIn v.place
      (BitVec.ofNat 8 (7 + 16 * r.status.code + 128 * bit r.clamped) :: tag :: padBytes 6 r.result)
      { s with engine := { s.engine with inService := none } }) := by
  rw [finishService_eq, responseBytes_activate request]

theorem serviceAt_of {stage : ServiceStage} (serving : s.engine.inService = some v) (at_ : v.stage = stage) :
    s.engine.serviceAt stage = some v := by
  unfold Engine.serviceAt
  rw [serving]
  exact if_pos at_

theorem validation_completes (serving : s.engine.inService = some v) (stage : v.stage = .validating) :
    exec .validationCompletion s = .next (completeValidation v s) := by
  simp only [exec, execValidationCompletion, serviceAt_of serving stage]

theorem store_ends (serving : s.engine.inService = some v) (stage : v.stage = .storing) (equal : Bool) :
    exec (.storeEnd equal) s = .next (completeStore v equal s) := by
  simp only [exec, execStoreEnd, serviceAt_of serving stage]

/-! ## The outcomes of a validation (R157) -/

theorem completeValidation_refused (held : ¬(s.ctl.app = .road ∨ s.ctl.app = .unloaded)) :
    completeValidation v s = finishService v .refusedMode (report .activationRefused (some 0) s) := if_pos held

theorem completeValidation_fails {f : Failure} (released : s.ctl.app = .road ∨ s.ctl.app = .unloaded)
    (fails : validate s.tables.shadow = some f) :
    completeValidation v s = finishService v f.reply (report .activationRefused (some f.check.number) s) := by
  unfold completeValidation
  rw [if_neg (not_not.mpr released), fails]

theorem completeValidation_passes (released : s.ctl.app = .road ∨ s.ctl.app = .unloaded)
    (passes : validate s.tables.shadow = none) :
    completeValidation v s =
      if v.storeFlag then beginStore v (activationCopy s) else finishService v (.ok []) (activationCopy s) := by
  unfold completeValidation
  rw [if_neg (not_not.mpr released), passes]

theorem storeFlag_iff (request : v.request.data = [7, tag, flag]) : v.storeFlag = true ↔ flag = 1 := by
  unfold Service.storeFlag
  rw [request, beq_iff_eq]
  rfl

/-- The copy of the Shadow bank with its effects on the neighbours (R157). -/
theorem activationCopy_eq (drive : DriveCoherent s) : activationCopy s = bankTaken s.tables.shadow
    { s with tables := { s.tables with active := s.tables.shadow, origin := .activated } } :=
  tablesTaken_eq (s := { s with tables := { s.tables with active := s.tables.shadow, origin := .activated } }) drive.1 drive.2

/-- Settles O52: the refusal by mode, the first failure, and the copy. -/
theorem validationCompletionDecidesInOrder : Obligations.ValidationCompletionDecidesInOrder := by
  unfold Obligations.ValidationCompletionDecidesInOrder
  refine ⟨fun s v tag flag serving stage request tables drive => ?_, validate_finds⟩
  dsimp only
  rw [validation_completes serving stage]
  refine ⟨fun held => ?_, fun released check table index rest failed => ?_, fun released failed plain => ?_,
    fun released failed store => ?_⟩
  · rw [completeValidation_refused held, finishService_activate request]
    rfl
  · obtain ⟨f, fails, rfl, rfl, rfl⟩ := validate_fails failed
    rw [completeValidation_fails released fails, finishService_activate request]
    rfl
  · rw [completeValidation_passes released (validate_passes failed), if_neg (mt (storeFlag_iff request).mp plain),
      activationCopy_eq drive, finishService_activate request]
    rfl
  · rw [completeValidation_passes released (validate_passes failed), if_pos ((storeFlag_iff request).mpr store),
      activationCopy_eq drive]
    rfl

/-- Settles O53: the end of a store by its comparison, and the completion of a load. -/
theorem storeAndLoadCompletionsTakeTheImage : Obligations.StoreAndLoadCompletionsTakeTheImage := by
  unfold Obligations.StoreAndLoadCompletionsTakeTheImage
  refine ⟨fun s v tag flag serving stage request => ⟨?_, ?_⟩,
    fun s loading tables drive => ⟨?_, fun t x y => serveWaiting_idle t x y⟩⟩
  · rw [store_ends serving stage]
    refine congrArg Host.Outcome.next ((finishService_activate request (.ok []) _).trans ?_)
    rfl
  · rw [store_ends serving stage]
    refine congrArg Host.Outcome.next ((finishService_activate request (.bare .storeFailed) _).trans ?_)
    rfl
  · refine congrArg Host.Outcome.next ((if_pos loading).trans ?_)
    unfold completeLoad
    dsimp only
    rw [tablesTaken_eq (by exact drive.1) (by exact drive.2)]

end Sys2Proof.Proofs.Completions
